-- ==== Sys2Proof/Word.lean ====
section
/-! DEFINITION. Word.lean: the byte of the links, and the shape of a numbered table of records. -/

namespace Sys2Proof

/-- One byte of a port frame, of a desk-line payload or of a retained record (R196, R198, R200). -/
abbrev Byte := BitVec 8

/-- A table of records by number (lot slots, accounts, segments, clocks, ...), as (number, record) pairs. Its
canonical form lists the numbers strictly rising and no record equal to what an unlisted number holds. -/
abbrev Tab (α : Type) := List (Nat × α)

end Sys2Proof
end

