-- ==== Sys2Proof/Records.lean ====
section
/-! DEFINITION. Records.lean: the records that commands carry and that the retained store keeps (R4, R10, R21, R64,
R128, R149, R150, R161, R166). Everything here is plain data. -/

namespace Sys2Proof

/-- The four master ports, in the order of their codes (R180, R196). -/
inductive Port where
  | sup | auc | yrd | fin
deriving DecidableEq, Repr

/-- The states of a lot that is held in a slot (R1). FREE is the slot that holds no lot. -/
inductive LotState where
  | registered | onTrain | queued | announced | onClock | soldOut | partSold | unsold | withdrawn
deriving DecidableEq, Repr

/-- A purchase entry of a lot (R4). -/
structure Purchase where
  buyer : Nat
  desk : Nat
  stems : Nat
  price : Nat
  position : Nat
  net : Nat
  seq : Nat
deriving DecidableEq, Repr

/-- The fields of a lot record that is not FREE (R1), less the check field. -/
structure LotRec where
  state : LotState
  catalogue : Nat
  total : Nat
  remaining : Nat
  unit : Nat
  minTake : Nat
  reserve : Nat
  startPrice : Option Nat
  reofferLimit : Nat
  runouts : Nat
  purchases : List Purchase
  train : Option Nat
  clock : Option Nat
  lastSeq : Option Nat
deriving DecidableEq, Repr

/-- The states of a buyer account (R128). -/
inductive AcctState where
  | vacant | active | suspended | damaged
deriving DecidableEq, Repr

/-- The last invoice of an account (R139). -/
structure Invoice where
  cents : Int
  count : Nat
  first : Option Nat
  last : Option Nat
  time : Nat
deriving DecidableEq, Repr

/-- The fields of a buyer account (R128), less the check field. -/
structure Account where
  state : AcctState
  isOver : Bool
  saturated : Bool
  badge : Option Nat
  limit : Int
  openAmt : Int
  billedAmt : Int
  heldAmt : Int
  feeClass : Nat
  bay : Option Nat
  desk : Option Nat
  entryCount : Nat
  firstSeq : Option Nat
  lastSeq : Option Nat
  lastInvoice : Option Invoice
deriving DecidableEq, Repr

/-- The kind of a journal entry as written (R149). -/
inductive EntryKind where
  | purchase | void
deriving DecidableEq, Repr

/-- A journal entry (R149, R200), with its stored check field and the DAMAGED mark of R163. -/
structure JEntry where
  seq : Nat
  kind : EntryKind
  clock : Nat
  time : Nat
  lot : Nat
  catalogue : Nat
  buyer : Nat
  desk : Nat
  tag : Nat
  position : Nat
  price : Nat
  stems : Nat
  gross : Nat
  fee : Nat
  net : Nat
  voided : Option Nat
  check : BitVec 16
  damaged : Bool
deriving DecidableEq, Repr

/-- The journal's values (R150), of which the retained store keeps two copies (R162). -/
structure JournalValues where
  used : Nat
  reserved : Nat
  newest : Option Nat
  oldestPlace : Nat
deriving DecidableEq, Repr

/-- The change record of the retained store (R161): every new value of one retained change. A journal place that a
release clears (R155) is given as none. -/
structure ChangeRec where
  lots : List (Nat × Option LotRec)
  accounts : List (Nat × Account)
  entries : List (Nat × Option JEntry)
  values : Option JournalValues
deriving DecidableEq, Repr

/-- The settings of a clock context that CLOCK_SET writes, in the order of the table of R64. -/
structure Settings where
  step : Nat
  interval : Nat
  span : Nat
  grace : Nat
  settle : Nat
  hold : Nat
  restartDelay : Nat
  restartRaise : Nat
  depth : Nat
  lead : Nat
  pause : Nat
  autoAdvance : Bool
  autoStart : Bool
  rehearsalStart : Nat
  rehearsalReserve : Nat
deriving DecidableEq, Repr

/-- The lot record of LOT_WRITE and of its DATA frames (R10, R196). -/
structure LotFields where
  slot : Nat
  catalogue : Nat
  total : Nat
  unit : Nat
  minTake : Nat
  reserve : Nat
  startPrice : Option Nat
  reofferLimit : Nat
deriving DecidableEq, Repr

/-- The segment record of LAYOUT_WRITE's DATA frames (R21, R196). The kind and the entry edge are given by their
codes; the successor list holds the places that are used. -/
structure SegFields where
  segment : Nat
  kind : Nat
  param : Nat
  succ : List Nat
  group : Nat
  edge : Nat
  filter : Nat
deriving DecidableEq, Repr

/-- The record of ACCOUNT_WRITE (R133): the state by its code, and the optional amounts part (open, billed). -/
structure AccountFields where
  state : Nat
  badge : Nat
  limit : Int
  feeClass : Nat
  bay : Option Nat
  amounts : Option (Int × Int)
deriving DecidableEq, Repr

/-- The unit carried by a DATA frame (R185, R196). -/
inductive DataUnit where
  | lot (r : LotFields)
  | segment (r : SegFields)
  | nothing
deriving DecidableEq, Repr

/-- A frame of the desk line as it stands on the wire, in the fields of R166. -/
structure WireFrame where
  cls : Nat
  arb : BitVec 16
  source : Nat
  length : Nat
  payload : List Byte
  check : Byte
deriving DecidableEq, Repr

/-- What the retained store is found to hold at a return of supply where that differs from what it held at the halt
(R161 to R163): a record that no longer agrees with its check field, or a change record that was cut short. The
16-bit value is the check field as found. -/
inductive StoreFind where
  | lot (slot : Nat) (found : Option LotRec) (check : BitVec 16)
  | account (buyer : Nat) (found : Account) (check : BitVec 16)
  | entry (place : Nat) (found : Option JEntry)
  | values (second : Bool) (found : JournalValues) (check : BitVec 16)
  | change (found : ChangeRec) (check : BitVec 16)
deriving DecidableEq, Repr

end Sys2Proof
end

