-- ==== Sys2Proof/Config.lean ====
section
/-! DEFINITION. Config.lean: the sizes the spec fixes, and the values the spec leaves open. An open value is a constant
with no body: nothing can be proved about it but that it is what it is. -/

namespace Sys2Proof.Config

/-- The limit S of an account amount: 2 to the power 47, less one (00 section 6, R121). -/
def amountLimit : Int := 140737488355327

/-- The greatest payment in cents that PAYMENT_POST does not clamp (R142). -/
def paymentLimit : Nat := 14073748835532

/-- Lot slots (00 section 6). -/
def lotSlots : Nat := 4096
/-- Buyer accounts. -/
def accounts : Nat := 1024
/-- Segments and sense lines. -/
def segments : Nat := 128
/-- Trains. -/
def trains : Nat := 64
/-- Bidding clocks. -/
def clocks : Nat := 6
/-- Desks are numbered 1 to 511. -/
def desks : Nat := 511
/-- Journal places (R150). -/
def journalSize : Nat := 8192
/-- The journal is low when used plus reserved is this or more (R153). -/
def journalLowMark : Nat := 7936
/-- The greatest journal sequence number; the sequence after it is 1 (R150). -/
def lastSequence : Nat := 4294967295
/-- The floor time after 4,294,967,295 is 0 (R193). -/
def floorTimeSpan : Nat := 4294967296
/-- Entries of a presentation queue (R47). -/
def queueSize : Nat := 8
/-- Moves of the move queue (R28). -/
def moveQueueSize : Nat := 16
/-- Launch times of a launch window (R31). -/
def windowSize : Nat := 4
/-- Frames of the inbound queue (R170). -/
def inboundSize : Nat := 32
/-- Frames of the outbound queue (R171). -/
def outboundSize : Nat := 16
/-- Purchases of one lot: the split limit (R4). -/
def splitLimit : Nat := 16

/-- FREE VALUE, log entry 7: the bytes of a lot record over which its check field is taken (R15, R200: the polynomial
is stated, the layout is not). -/
opaque lotBytes : Option LotRec → List Byte
/-- FREE VALUE, log entry 7: the bytes of an account over which its check field is taken (R128, R200). -/
opaque accountBytes : Account → List Byte
/-- FREE VALUE, log entry 7: the bytes of a copy of the journal's values over which its check field is taken (R162). -/
opaque valuesBytes : JournalValues → List Byte
/-- FREE VALUE, log entry 7: the bytes of the change record over which its check field is taken (R161). -/
opaque changeBytes : ChangeRec → List Byte
/-- FREE VALUE, log entry 10: what a port returns after the tag byte while its reply slot is empty (R196 gives the
status summary and a tag of 0). -/
opaque emptySlotBytes : List Byte
/-- FREE VALUE, log entry 11: the 2 bytes sent for a minimum take in stems that is above 65,535 (R198 gives the field
2 bytes; R1 admits 99 units of 60,000 stems). -/
opaque wideMinTake : Nat → BitVec 16
/-- FREE VALUE, log entry 33: the fields read from a cleared journal place that the journal's values count as held, by
the number of the field (R155 says only that a cleared place holds no entry that passes its check). -/
opaque clearedField : Nat → Nat
/-- FREE VALUE, log entry 33: the voided sequence, or its absence, read from such a place. -/
opaque clearedVoided : Option Nat

end Sys2Proof.Config
end

