-- ==== Sys2Proof/Syntax.lean ====
section
/-! DEFINITION. Syntax.lean: the commands of the part, one constructor for each row of spec/opcode_table.json. A port
command carries the port `p` it is given on and the tag `t` of its frame (R181), then its fields in the order of R196. -/

namespace Sys2Proof

inductive Instr where
  -- SUP
  | lotWrite (p : Port) (t : Nat) (count : Nat) (r : LotFields)
  | lotWithdraw (p : Port) (t : Nat) (slot : Nat)
  | lotRelease (p : Port) (t : Nat) (slot : Nat)
  | layoutWrite (p : Port) (t : Nat) (window : Nat) (transit : Nat) (count : Nat)
  | segmentClear (p : Port) (t : Nat) (segment : Nat)
  | accountWrite (p : Port) (t : Nat) (buyer : Nat) (r : AccountFields)
  | feeClassWrite (p : Port) (t : Nat) (fclass : Nat) (stemFee : Nat) (percentage : Nat) (minimum : Nat)
  | deskUnbind (p : Port) (t : Nat) (desk : Nat)
  | journalFormat (p : Port) (t : Nat)
  | timeSet (p : Port) (t : Nat) (value : Nat)
  | floorReset (p : Port) (t : Nat)
  -- AUC
  | clockSet (p : Port) (t : Nat) (c : Nat) (r : Settings)
  | clockMode (p : Port) (t : Nat) (c : Nat) (on : Bool)
  | clockLoad (p : Port) (t : Nat) (c : Nat)
  | clockStart (p : Port) (t : Nat) (c : Nat)
  | clockPause (p : Port) (t : Nat) (c : Nat)
  | clockResume (p : Port) (t : Nat) (c : Nat)
  | clockSkip (p : Port) (t : Nat) (c : Nat)
  | voidLast (p : Port) (t : Nat) (c : Nat)
  | rehearsalRun (p : Port) (t : Nat) (c : Nat)
  | rehearsalClear (p : Port) (t : Nat) (c : Nat)
  | rehearsalReport (p : Port) (t : Nat) (c : Nat)
  -- YRD
  | trainForm (p : Port) (t : Nat) (train : Nat) (segment : Nat) (lots : List Nat)
  | trainDisband (p : Port) (t : Nat) (train : Nat)
  | trainMove (p : Port) (t : Nat) (train : Nat) (route : List Nat)
  | moveRetry (p : Port) (t : Nat) (train : Nat)
  | moveCancel (p : Port) (t : Nat) (train : Nat)
  | distRead (p : Port) (t : Nat) (train : Nat) (page : Nat)
  -- FIN
  | invoiceClose (p : Port) (t : Nat) (buyer : Nat)
  | invoiceCloseAll (p : Port) (t : Nat)
  | paymentPost (p : Port) (t : Nat) (buyer : Nat) (cents : Nat)
  | journalRead (p : Port) (t : Nat) (seq : Nat) (count : Nat)
  | journalRelease (p : Port) (t : Nat) (seq : Nat)
  -- every port
  | lotRead (p : Port) (t : Nat) (slot : Nat) (page : Nat)
  | trainRead (p : Port) (t : Nat) (train : Nat)
  | clockRead (p : Port) (t : Nat) (c : Nat) (page : Nat)
  | accountRead (p : Port) (t : Nat) (buyer : Nat)
  | deskRead (p : Port) (t : Nat) (desk : Nat)
  | portStatus (p : Port) (t : Nat) (port : Nat)
  | noticePeek (p : Port) (t : Nat)
  | noticeTake (p : Port) (t : Nat)
  | noticeEnable (p : Port) (t : Nat) (mask : BitVec 8)
  | data (p : Port) (t : Nat) (u : DataUnit)
  | unknownCommand (p : Port) (t : Nat)
  /-- One exchange of port `p`, in which the master gives the bytes `given` (R181), or nothing. -/
  | portExchange (p : Port) (given : List Byte)
  -- the account walk
  | invoiceWalkStep
  -- desk line, inbound
  | deskFrameReceive (f : WireFrame)
  | stop
  | quantity
  | signIn
  | signOut
  | statusAsk
  | malformedFrameDiscard
  -- clock events
  | pendingStartDue (c : Nat)
  | stepTimerExpiry (c : Nat)
  | settleExpiry (c : Nat)
  | holdTimerExpiry (c : Nat)
  | restartTimerExpiry (c : Nat)
  -- yard events
  | launchWindowAgeOut (group : Nat)
  | transitTimerExpiry (train : Nat)
  | senseLineChange (segment : Nat) (level : Bool)
  | senseFilterExpiry (segment : Nat)
  -- desk line, outbound
  | frameSendBegin
  | broadcastSent
  | disturbance
  | replyDelivered
  | replyNotDelivered
  -- supply, reset and time
  | supplyWarn
  | supplyRestored
  | supplyFail
  /-- The return of the supply after OFF, with what the retained store is found to hold (log entry 8). -/
  | supplyReturn (found : List StoreFind)
  | resetLineAssert
  | resetLineRelease
  | powerUpSequence
  | floorTimeMillisecond
deriving DecidableEq, Repr

end Sys2Proof
end

