-- ==== Sys2Proof/WellFormed.lean ====
section
/-! DEFINITION. WellFormed.lean: the ranges that the layouts of R196 to R198 and the numbering of 00 section 6 give the
operands of a command. A port command's fields fit their bytes; the number of an event's clock, train, segment or power
group exists. Whether a field is in the range of its OWN rule (and so refused or clamped) is judged by the command. -/

namespace Sys2Proof

/-- The number fits in 1, 2, 3, 4 or 6 bytes. -/
def fits1 (n : Nat) : Bool := n < 256
def fits2 (n : Nat) : Bool := n < 65536
def fits3 (n : Nat) : Bool := n < 16777216
def fits4 (n : Nat) : Bool := n < 4294967296
def fits6 (n : Nat) : Bool := n < 281474976710656
/-- A signed amount fits in 6 bytes of two's complement (R196). -/
def fitsS6 (x : Int) : Bool := -140737488355328 ≤ x && x < 140737488355328

/-- The lot record of R196. An absent start price is given as 0, so a start price that is given is not 0. -/
def LotFields.wellFormed (r : LotFields) : Bool :=
  fits2 r.slot && fits4 r.catalogue && fits2 r.total && fits2 r.unit && fits1 r.minTake && fits3 r.reserve &&
  (match r.startPrice with | none => true | some x => 0 < x && fits3 x) && fits1 r.reofferLimit

/-- The segment record of R196: at most three successors, FFFFh being the mark of an unused place. -/
def SegFields.wellFormed (r : SegFields) : Bool :=
  fits2 r.segment && fits1 r.kind && fits1 r.param && r.succ.length ≤ 3 && r.succ.all (· < 65535) &&
  fits1 r.group && fits1 r.edge && fits1 r.filter

/-- The account record of R196. An absent bay is given as FFh. -/
def AccountFields.wellFormed (r : AccountFields) : Bool :=
  fits1 r.state && fits3 r.badge && fitsS6 r.limit && fits1 r.feeClass &&
  (match r.bay with | none => true | some b => b < 255) &&
  (match r.amounts with | none => true | some (o, b) => fitsS6 o && fitsS6 b)

/-- The settings of CLOCK_SET, in the bytes that their ranges in R64 take (R196). -/
def Settings.wellFormed (r : Settings) : Bool :=
  fits2 r.step && fits1 r.interval && fits1 r.span && fits1 r.grace && fits1 r.settle && fits2 r.hold &&
  fits2 r.restartDelay && fits1 r.restartRaise && fits1 r.depth && fits2 r.lead && fits2 r.pause &&
  fits3 r.rehearsalStart && fits3 r.rehearsalReserve

/-- The unit of a DATA frame. -/
def DataUnit.wellFormed : DataUnit → Bool
  | .lot r => r.wellFormed
  | .segment r => r.wellFormed
  | .nothing => true

/-- A frame on the wire: class of 2 bits, source of 9, length of 5, and as many payload bytes as the length says. -/
def WireFrame.wellFormed (f : WireFrame) : Bool :=
  f.cls < 4 && f.source < 512 && f.length < 32 && f.payload.length = f.length

/-- The record numbers of what the retained store is found to hold. -/
def StoreFind.wellFormed : StoreFind → Bool
  | .lot k _ _ => k < Config.lotSlots
  | .account k _ _ => k < Config.accounts
  | .entry k _ => k < Config.journalSize
  | .values _ _ _ => true
  | .change r _ =>
    r.lots.all (fun c => c.1 < Config.lotSlots) && r.accounts.all (fun c => c.1 < Config.accounts) &&
    r.entries.all (fun c => c.1 < Config.journalSize)

/-- The operands of a command fit their layout. -/
def Instr.wellFormed : Instr → Bool
  | .lotWrite _ t n r => fits1 t && fits2 n && r.wellFormed
  | .lotWithdraw _ t k => fits1 t && fits2 k
  | .lotRelease _ t k => fits1 t && fits2 k
  | .layoutWrite _ t w x n => fits1 t && fits1 w && fits1 x && fits1 n
  | .segmentClear _ t g => fits1 t && fits2 g
  | .accountWrite _ t b r => fits1 t && fits2 b && r.wellFormed
  | .feeClassWrite _ t f a b c => fits1 t && fits1 f && fits2 a && fits2 b && fits3 c
  | .deskUnbind _ t d => fits1 t && fits2 d
  | .journalFormat _ t => fits1 t
  | .timeSet _ t v => fits1 t && fits4 v
  | .floorReset _ t => fits1 t
  | .clockSet _ t c r => fits1 t && fits1 c && r.wellFormed
  | .clockMode _ t c _ => fits1 t && fits1 c
  | .clockLoad _ t c => fits1 t && fits1 c
  | .clockStart _ t c => fits1 t && fits1 c
  | .clockPause _ t c => fits1 t && fits1 c
  | .clockResume _ t c => fits1 t && fits1 c
  | .clockSkip _ t c => fits1 t && fits1 c
  | .voidLast _ t c => fits1 t && fits1 c
  | .rehearsalRun _ t c => fits1 t && fits1 c
  | .rehearsalClear _ t c => fits1 t && fits1 c
  | .rehearsalReport _ t c => fits1 t && fits1 c
  | .trainForm _ t n g l => fits1 t && fits1 n && fits2 g && l.length ≤ 125 && l.all fits2
  | .trainDisband _ t n => fits1 t && fits1 n
  | .trainMove _ t n l => fits1 t && fits1 n && l.length ≤ 126 && l.all fits2
  | .moveRetry _ t n => fits1 t && fits1 n
  | .moveCancel _ t n => fits1 t && fits1 n
  | .distRead _ t n g => fits1 t && fits1 n && fits1 g
  | .invoiceClose _ t b => fits1 t && fits2 b
  | .invoiceCloseAll _ t => fits1 t
  | .paymentPost _ t b a => fits1 t && fits2 b && fits6 a
  | .journalRead _ t q n => fits1 t && fits4 q && fits1 n
  | .journalRelease _ t q => fits1 t && fits4 q
  | .lotRead _ t k g => fits1 t && fits2 k && fits1 g
  | .trainRead _ t n => fits1 t && fits1 n
  | .clockRead _ t c g => fits1 t && fits1 c && fits1 g
  | .accountRead _ t b => fits1 t && fits2 b
  | .deskRead _ t d => fits1 t && fits2 d
  | .portStatus _ t q => fits1 t && fits1 q
  | .noticePeek _ t => fits1 t
  | .noticeTake _ t => fits1 t
  | .noticeEnable _ t _ => fits1 t
  | .data _ t u => fits1 t && u.wellFormed
  | .unknownCommand _ t => fits1 t
  | .portExchange _ _ => true
  | .invoiceWalkStep => true
  | .deskFrameReceive f => f.wellFormed
  | .stop => true
  | .quantity => true
  | .signIn => true
  | .signOut => true
  | .statusAsk => true
  | .malformedFrameDiscard => true
  | .pendingStartDue c => c < Config.clocks
  | .stepTimerExpiry c => c < Config.clocks
  | .settleExpiry c => c < Config.clocks
  | .holdTimerExpiry c => c < Config.clocks
  | .restartTimerExpiry c => c < Config.clocks
  | .launchWindowAgeOut g => g < 4
  | .transitTimerExpiry n => n < Config.trains
  | .senseLineChange g _ => g < Config.segments
  | .senseFilterExpiry g => g < Config.segments
  | .frameSendBegin => true
  | .broadcastSent => true
  | .disturbance => true
  | .replyDelivered => true
  | .replyNotDelivered => true
  | .supplyWarn => true
  | .supplyRestored => true
  | .supplyFail => true
  | .supplyReturn l => l.all StoreFind.wellFormed
  | .resetLineAssert => true
  | .resetLineRelease => true
  | .powerUpSequence => true
  | .floorTimeMillisecond => true

end Sys2Proof
end

