-- ==== Sys2Proof/Decode.lean ====
section
/-! DEFINITION. Decode.lean: the port frames of R196 and R197 as bytes, both ways: `encodeFrame` writes the command frame
of a port command, `decodeFrame` reads the bytes of a frame back. `decodeTableWord` answers none: no row of the table
gives its command bits. -/

namespace Sys2Proof

/-- No row of spec/opcode_table.json has bits, so no word spells a command. -/
def decodeTableWord (_nbits _w : Nat) : Option Instr := none

/-! ## Fields as bytes, most significant first (R196) -/

/-- The number in `k` bytes, most significant first; higher bits are dropped. -/
def natBytes : Nat → Nat → List Byte
  | 0, _ => []
  | k + 1, n => natBytes k (n / 256) ++ [BitVec.ofNat 8 n]

/-- The number that bytes spell, most significant first. -/
def bytesNat (bs : List Byte) : Nat := bs.foldl (fun n b => n * 256 + b.toNat) 0

def u1 (n : Nat) : List Byte := natBytes 1 n
def u2 (n : Nat) : List Byte := natBytes 2 n
def u3 (n : Nat) : List Byte := natBytes 3 n
def u4 (n : Nat) : List Byte := natBytes 4 n
def u6 (n : Nat) : List Byte := natBytes 6 n

/-- A signed amount in 6 bytes of two's complement (R196). -/
def s6 (x : Int) : List Byte := natBytes 6 (BitVec.ofInt 48 x).toNat

/-- The signed amount that 6 bytes spell. -/
def bytesInt (bs : List Byte) : Int := (BitVec.ofNat 48 (bytesNat bs)).toInt

/-- An on or off setting (R197). A flag or a mark in a reply, which R197 does not code, is 1 when it is set and 0 when it
is not (log entry 54). -/
def onByte (b : Bool) : List Byte := u1 (if b then 1 else 0)

/-- Optional values whose range excludes 0 are given as 0 when absent (R197). -/
def opt0 (w : Nat) : Option Nat → List Byte
  | none => natBytes w 0
  | some n => natBytes w n

/-- Optional values whose range includes 0 are given as FFh in every byte when absent (R196, R197). -/
def optF (w : Nat) : Option Nat → List Byte
  | none => List.replicate w 0xFF#8
  | some n => natBytes w n

/-- The optional number that a field spells when 0 stands for its absence. -/
def readOpt0 (n : Nat) : Option Nat := if n = 0 then none else some n

/-- A list of varying length carries a count byte and then its entries (R196). -/
def listBytes (entries : List (List Byte)) : List Byte := u1 entries.length ++ entries.flatten

/-! ## The records of command frames -/

/-- The 18 bytes of a lot record (R196). -/
def LotFields.bytes (r : LotFields) : List Byte :=
  u2 r.slot ++ u4 r.catalogue ++ u2 r.total ++ u2 r.unit ++ u1 r.minTake ++ u3 r.reserve ++ opt0 3 r.startPrice ++
  u1 r.reofferLimit

/-- The three successor places of a segment record, FFFFh for each unused one (R196). -/
def succBytes (l : List Nat) : List Byte :=
  ((l ++ List.replicate 3 65535).take 3).flatMap u2

/-- The 13 bytes of a segment record (R196). -/
def SegFields.bytes (r : SegFields) : List Byte :=
  u2 r.segment ++ u1 r.kind ++ u1 r.param ++ succBytes r.succ ++ u1 r.group ++ u1 r.edge ++ u1 r.filter

/-- The record of ACCOUNT_WRITE (R196). -/
def AccountFields.bytes (r : AccountFields) : List Byte :=
  u1 r.state ++ u3 r.badge ++ s6 r.limit ++ u1 r.feeClass ++ optF 1 r.bay ++
  (match r.amounts with | none => [] | some (o, b) => s6 o ++ s6 b)

/-- The settings of R64 except the rehearsal flag, in the order of its table (R196: 24 bytes). -/
def Settings.bytes (r : Settings) : List Byte :=
  u2 r.step ++ u1 r.interval ++ u1 r.span ++ u1 r.grace ++ u1 r.settle ++ u2 r.hold ++ u2 r.restartDelay ++
  u1 r.restartRaise ++ u1 r.depth ++ u2 r.lead ++ u2 r.pause ++ onByte r.autoAdvance ++ onByte r.autoStart ++
  u3 r.rehearsalStart ++ u3 r.rehearsalReserve

/-- The bytes of a field list, from byte `i`, `k` of them, as a number. -/
def field (bs : List Byte) (i k : Nat) : Nat := bytesNat ((bs.drop i).take k)

/-- Reads the 18 bytes of a lot record. -/
def readLot (bs : List Byte) : LotFields :=
  { slot := field bs 0 2, catalogue := field bs 2 4, total := field bs 6 2, unit := field bs 8 2,
    minTake := field bs 10 1, reserve := field bs 11 3, startPrice := readOpt0 (field bs 14 3),
    reofferLimit := field bs 17 1 }

/-- Reads the 13 bytes of a segment record; an unused successor place is passed over. -/
def readSegment (bs : List Byte) : SegFields :=
  { segment := field bs 0 2, kind := field bs 2 1, param := field bs 3 1,
    succ := [field bs 4 2, field bs 6 2, field bs 8 2].filter (· ≠ 65535),
    group := field bs 10 1, edge := field bs 11 1, filter := field bs 12 1 }

/-- Reads the account record that follows the buyer, of 12 or 24 bytes. -/
def readAccount (bs : List Byte) : AccountFields :=
  { state := field bs 0 1, badge := field bs 1 3, limit := bytesInt ((bs.drop 4).take 6), feeClass := field bs 10 1,
    bay := if field bs 11 1 = 255 then none else some (field bs 11 1),
    amounts := if bs.length = 24 then some (bytesInt ((bs.drop 12).take 6), bytesInt ((bs.drop 18).take 6)) else none }

/-- Reads the settings of CLOCK_SET. An on or off setting is off when its byte is 0 and on otherwise (R197). -/
def readSettings (bs : List Byte) : Settings :=
  { step := field bs 0 2, interval := field bs 2 1, span := field bs 3 1, grace := field bs 4 1,
    settle := field bs 5 1, hold := field bs 6 2, restartDelay := field bs 8 2, restartRaise := field bs 10 1,
    depth := field bs 11 1, lead := field bs 12 2, pause := field bs 14 2, autoAdvance := field bs 16 1 ≠ 0,
    autoStart := field bs 17 1 ≠ 0, rehearsalStart := field bs 18 3, rehearsalReserve := field bs 21 3 }

/-- Reads a list of `k` 2-byte numbers. -/
def readNumbers : Nat → List Byte → List Nat
  | 0, _ => []
  | k + 1, bs => bytesNat (bs.take 2) :: readNumbers k (bs.drop 2)

/-! ## Command frames -/

/-- The code and the fields of a port command (R196); none for a command that is not given by a frame. -/
def frameFields : Instr → Option (Nat × Nat × List Byte)
  | .lotWrite _ t n r => some (0x10, t, u2 n ++ r.bytes)
  | .lotWithdraw _ t k => some (0x11, t, u2 k)
  | .lotRelease _ t k => some (0x12, t, u2 k)
  | .layoutWrite _ t w x n => some (0x13, t, u1 w ++ u1 x ++ u1 n)
  | .segmentClear _ t g => some (0x14, t, u2 g)
  | .accountWrite _ t b r => some (0x15, t, u2 b ++ r.bytes)
  | .feeClassWrite _ t f a b c => some (0x16, t, u1 f ++ u2 a ++ u2 b ++ u3 c)
  | .deskUnbind _ t d => some (0x17, t, u2 d)
  | .journalFormat _ t => some (0x18, t, [])
  | .timeSet _ t v => some (0x19, t, u4 v)
  | .floorReset _ t => some (0x1A, t, [])
  | .clockSet _ t c r => some (0x20, t, u1 c ++ r.bytes)
  | .clockMode _ t c b => some (0x21, t, u1 c ++ onByte b)
  | .clockLoad _ t c => some (0x22, t, u1 c)
  | .clockStart _ t c => some (0x23, t, u1 c)
  | .clockPause _ t c => some (0x24, t, u1 c)
  | .clockResume _ t c => some (0x25, t, u1 c)
  | .clockSkip _ t c => some (0x26, t, u1 c)
  | .voidLast _ t c => some (0x27, t, u1 c)
  | .rehearsalRun _ t c => some (0x28, t, u1 c)
  | .rehearsalClear _ t c => some (0x29, t, u1 c)
  | .rehearsalReport _ t c => some (0x2A, t, u1 c)
  | .trainForm _ t n g l => some (0x30, t, u1 n ++ u2 g ++ listBytes (l.map u2))
  | .trainDisband _ t n => some (0x31, t, u1 n)
  | .trainMove _ t n l => some (0x32, t, u1 n ++ listBytes (l.map u2))
  | .moveRetry _ t n => some (0x33, t, u1 n)
  | .moveCancel _ t n => some (0x34, t, u1 n)
  | .distRead _ t n g => some (0x35, t, u1 n ++ u1 g)
  | .invoiceClose _ t b => some (0x40, t, u2 b)
  | .invoiceCloseAll _ t => some (0x41, t, [])
  | .paymentPost _ t b a => some (0x42, t, u2 b ++ u6 a)
  | .journalRead _ t q n => some (0x43, t, u4 q ++ u1 n)
  | .journalRelease _ t q => some (0x44, t, u4 q)
  | .lotRead _ t k g => some (0x50, t, u2 k ++ u1 g)
  | .trainRead _ t n => some (0x51, t, u1 n)
  | .clockRead _ t c g => some (0x52, t, u1 c ++ u1 g)
  | .accountRead _ t b => some (0x53, t, u2 b)
  | .deskRead _ t d => some (0x54, t, u2 d)
  | .portStatus _ t q => some (0x55, t, u1 q)
  | .noticePeek _ t => some (0x56, t, [])
  | .noticeTake _ t => some (0x57, t, [])
  | .noticeEnable _ t m => some (0x58, t, u1 m.toNat)
  | .data _ t (.lot r) => some (0x5F, t, r.bytes)
  | .data _ t (.segment r) => some (0x5F, t, r.bytes)
  | .data _ t .nothing => some (0x5F, t, [])
  | .unknownCommand _ _ | .portExchange _ _ | .invoiceWalkStep | .deskFrameReceive _ | .stop | .quantity | .signIn
  | .signOut | .statusAsk | .malformedFrameDiscard | .pendingStartDue _ | .stepTimerExpiry _ | .settleExpiry _
  | .holdTimerExpiry _ | .restartTimerExpiry _ | .launchWindowAgeOut _ | .transitTimerExpiry _
  | .senseLineChange _ _ | .senseFilterExpiry _ | .frameSendBegin | .broadcastSent | .disturbance | .replyDelivered
  | .replyNotDelivered | .supplyWarn | .supplyRestored | .supplyFail | .supplyReturn _ | .resetLineAssert
  | .resetLineRelease | .powerUpSequence | .floorTimeMillisecond => none

/-- The command frame of a port command: code, tag, length of the fields, fields (R196). -/
def encodeFrame (i : Instr) : Option (List Byte) :=
  (frameFields i).map fun (code, t, fs) => u1 code ++ u1 t ++ u1 fs.length ++ fs

/-- What a port makes of the bytes it was given in an exchange (R181, R197). -/
inductive FrameRead where
  /-- Cut short, or its length disagrees with its code: discarded. -/
  | discarded
  /-- A command taken. -/
  | command (i : Instr)
deriving DecidableEq, Repr

/-- The command when its fields have the length of its code, and a discarded frame otherwise (R197). -/
def takenIf (ok : Bool) (i : Instr) : FrameRead := if ok then .command i else .discarded

/-- A DATA frame has the length of the unit of its port's open transfer (`want`); with no open transfer a length of 0,
13 or 18 is taken (R196). -/
def readData (p : Port) (t : Nat) (want : Option Nat) (fs : List Byte) : FrameRead :=
  let n := fs.length
  if want = none ∧ (n = 0 ∨ n = 13 ∨ n = 18) ∨ want = some n then
    if n = 18 then .command (.data p t (.lot (readLot fs)))
    else if n = 13 then .command (.data p t (.segment (readSegment fs)))
    else .command (.data p t .nothing)
  else .discarded

/-- The command that a code and its fields spell (R196, R197). A code that is not in the list is taken as
UNKNOWN_COMMAND (R182). -/
def readCommand (p : Port) (want : Option Nat) (code t : Nat) (fs : List Byte) : FrameRead :=
  let n := fs.length
  match code with
  | 0x10 => takenIf (n == 20) (.lotWrite p t (field fs 0 2) (readLot (fs.drop 2)))
  | 0x11 => takenIf (n == 2) (.lotWithdraw p t (field fs 0 2))
  | 0x12 => takenIf (n == 2) (.lotRelease p t (field fs 0 2))
  | 0x13 => takenIf (n == 3) (.layoutWrite p t (field fs 0 1) (field fs 1 1) (field fs 2 1))
  | 0x14 => takenIf (n == 2) (.segmentClear p t (field fs 0 2))
  | 0x15 => takenIf (n == 14 || n == 26) (.accountWrite p t (field fs 0 2) (readAccount (fs.drop 2)))
  | 0x16 => takenIf (n == 8) (.feeClassWrite p t (field fs 0 1) (field fs 1 2) (field fs 3 2) (field fs 5 3))
  | 0x17 => takenIf (n == 2) (.deskUnbind p t (field fs 0 2))
  | 0x18 => takenIf (n == 0) (.journalFormat p t)
  | 0x19 => takenIf (n == 4) (.timeSet p t (field fs 0 4))
  | 0x1A => takenIf (n == 0) (.floorReset p t)
  | 0x20 => takenIf (n == 25) (.clockSet p t (field fs 0 1) (readSettings (fs.drop 1)))
  | 0x21 => takenIf (n == 2) (.clockMode p t (field fs 0 1) (field fs 1 1 ≠ 0))
  | 0x22 => takenIf (n == 1) (.clockLoad p t (field fs 0 1))
  | 0x23 => takenIf (n == 1) (.clockStart p t (field fs 0 1))
  | 0x24 => takenIf (n == 1) (.clockPause p t (field fs 0 1))
  | 0x25 => takenIf (n == 1) (.clockResume p t (field fs 0 1))
  | 0x26 => takenIf (n == 1) (.clockSkip p t (field fs 0 1))
  | 0x27 => takenIf (n == 1) (.voidLast p t (field fs 0 1))
  | 0x28 => takenIf (n == 1) (.rehearsalRun p t (field fs 0 1))
  | 0x29 => takenIf (n == 1) (.rehearsalClear p t (field fs 0 1))
  | 0x2A => takenIf (n == 1) (.rehearsalReport p t (field fs 0 1))
  | 0x30 => takenIf (4 ≤ n && n == 4 + 2 * field fs 3 1)
      (.trainForm p t (field fs 0 1) (field fs 1 2) (readNumbers (field fs 3 1) (fs.drop 4)))
  | 0x31 => takenIf (n == 1) (.trainDisband p t (field fs 0 1))
  | 0x32 => takenIf (2 ≤ n && n == 2 + 2 * field fs 1 1)
      (.trainMove p t (field fs 0 1) (readNumbers (field fs 1 1) (fs.drop 2)))
  | 0x33 => takenIf (n == 1) (.moveRetry p t (field fs 0 1))
  | 0x34 => takenIf (n == 1) (.moveCancel p t (field fs 0 1))
  | 0x35 => takenIf (n == 2) (.distRead p t (field fs 0 1) (field fs 1 1))
  | 0x40 => takenIf (n == 2) (.invoiceClose p t (field fs 0 2))
  | 0x41 => takenIf (n == 0) (.invoiceCloseAll p t)
  | 0x42 => takenIf (n == 8) (.paymentPost p t (field fs 0 2) (field fs 2 6))
  | 0x43 => takenIf (n == 5) (.journalRead p t (field fs 0 4) (field fs 4 1))
  | 0x44 => takenIf (n == 4) (.journalRelease p t (field fs 0 4))
  | 0x50 => takenIf (n == 3) (.lotRead p t (field fs 0 2) (field fs 2 1))
  | 0x51 => takenIf (n == 1) (.trainRead p t (field fs 0 1))
  | 0x52 => takenIf (n == 2) (.clockRead p t (field fs 0 1) (field fs 1 1))
  | 0x53 => takenIf (n == 2) (.accountRead p t (field fs 0 2))
  | 0x54 => takenIf (n == 2) (.deskRead p t (field fs 0 2))
  | 0x55 => takenIf (n == 1) (.portStatus p t (field fs 0 1))
  | 0x56 => takenIf (n == 0) (.noticePeek p t)
  | 0x57 => takenIf (n == 0) (.noticeTake p t)
  | 0x58 => takenIf (n == 1) (.noticeEnable p t (BitVec.ofNat 8 (field fs 0 1)))
  | 0x5F => readData p t want fs
  | _ => .command (.unknownCommand p t)

/-- The bytes that a master gave in one exchange, read as a command frame: code, tag, length, and as many field bytes
as the length says. `want` is the length of the unit of the port's open transfer, if it has one. A frame with more
bytes behind it is discarded whole (log entry 64). -/
def decodeFrame (p : Port) (want : Option Nat) : List Byte → FrameRead
  | code :: t :: n :: fs =>
    if fs.length = n.toNat then readCommand p want code.toNat t.toNat fs else .discarded
  | _ => .discarded

end Sys2Proof
end

