-- ==== Sys2Proof/Machine/State.lean ====
section
/-! DEFINITION. Machine/State.lean: everything the spec gives the part, as plain data, and the part right after reset. -/

namespace Sys2Proof.Machine

/-! ## Retained store (R1, R128, R149 to R163) -/

/-- A lot slot: FREE (`lot` is none) or the lot it holds. `found` is none while the check field agrees with the
record; it holds the check field as found when the record was found changed (log entry 8). -/
structure LotCell where
  lot : Option LotRec
  found : Option (BitVec 16)
deriving DecidableEq, Repr

/-- An account with its check field, kept as in `LotCell`. -/
structure AcctCell where
  acct : Account
  found : Option (BitVec 16)
deriving DecidableEq, Repr

/-- One copy of the journal's values with its check field (R162). -/
structure ValuesCopy where
  values : JournalValues
  found : Option (BitVec 16)
deriving DecidableEq, Repr

/-- The journal: its values in two copies, and its 8192 places (R150, R162). -/
structure Journal where
  copy1 : ValuesCopy
  copy2 : ValuesCopy
  places : Tab (Option JEntry)
deriving DecidableEq, Repr

/-- The change record with its check field (R161). -/
structure ChangeCell where
  change : ChangeRec
  found : Option (BitVec 16)
deriving DecidableEq, Repr

/-! ## Yard controller (R18, R24, R31) -/

/-- The kinds of a segment (R18). -/
inductive SegKind where
  | store | track | stage
  | present (clock : Nat)
  | bay (bay : Nat)
  | return
deriving DecidableEq, Repr

/-- The written fields of a defined segment (R18). `rising` says that its entry edge is RISING. -/
structure SegLayout where
  kind : SegKind
  succ : List Nat
  group : Nat
  rising : Bool
  filter : Nat
deriving DecidableEq, Repr

/-- The states of a segment; a FAULT holds its fault reservation (R18). -/
inductive SegState where
  | free
  | reserved (train : Nat)
  | occupied (train : Nat)
  | fault (reservation : Option Nat)
deriving DecidableEq, Repr

/-- A filter that is timing a change: when the sensed level last changed, and the time left (R22). -/
structure FilterTiming where
  since : Nat
  left : Nat
deriving DecidableEq, Repr

/-- A segment record (R18, R22). It is defined when `layout` is present. -/
structure Segment where
  layout : Option SegLayout
  state : SegState
  level : Bool
  timing : Option FilterTiming
deriving DecidableEq, Repr

/-- The states of a train (R24). -/
inductive TrainState where
  | empty | stored | queued | moving | stalled | stopped | presenting | cleared | atBay
deriving DecidableEq, Repr

/-- The states that a train can have held before its move was queued, in the order of their codes (R24, R197). -/
inductive PriorState where
  | stored | stopped | cleared | atBay
deriving DecidableEq, Repr

/-- The causes of a stall (R24). -/
inductive StallCause where
  | transit | intrusion | order
deriving DecidableEq, Repr

/-- A train's current move: its route, and the position in it of the next segment to be entered (R24). -/
structure Move where
  route : List Nat
  next : Nat
deriving DecidableEq, Repr

/-- A train record (R24), with the time left on its transit timer (R37). -/
structure Train where
  state : TrainState
  lots : List Nat
  head : Option Nat
  occupied : List Nat
  move : Option Move
  prior : Option PriorState
  cause : Option StallCause
  clock : Option Nat
  timer : Option Nat
deriving DecidableEq, Repr

/-- A launch time with its age (R31). -/
structure Launch where
  time : Nat
  age : Nat
deriving DecidableEq, Repr

/-- The yard controller: the two whole-yard settings in seconds, the tables, the move queue oldest first, and the
launch windows oldest first. -/
structure Yard where
  windowLength : Nat
  transitTimeout : Nat
  segs : Tab Segment
  trains : Tab Train
  moves : List Nat
  windows : Tab (List Launch)
deriving DecidableEq, Repr

/-! ## Presentation unit (R47 to R63) -/

/-- How an entry joined its queue (R47). -/
inductive Origin where
  | train | reOffer | givenBack
deriving DecidableEq, Repr

/-- An announce record: the floor time of the placement and the time elapsed since (R47). -/
structure Announce where
  time : Nat
  age : Nat
deriving DecidableEq, Repr

/-- A queue entry (R47). -/
structure QEntry where
  lot : Nat
  origin : Origin
  announce : Option Announce
deriving DecidableEq, Repr

/-- The kinds of a pending start (R54). -/
inductive PendKind where
  | manual | auto
deriving DecidableEq, Repr

/-- What the presentation unit holds for one clock. `unrun` says that the clock's current lot was loaded and no run of it
has begun since (R51, R53). `ready` is the model's own: the lot for which LOT_READY stands given (log entry 15). -/
structure Pres where
  queue : List QEntry
  train : Option Nat
  current : Option Announce
  unrun : Bool
  pending : Option PendKind
  letGo : Option Nat
  ready : Option Nat
deriving DecidableEq, Repr

/-! ## Clock unit (R64, R65, R73, R77, R93, R100) -/

/-- The states of a clock (R65). -/
inductive ClockState where
  | idle | loaded | running | settling | held | restartWait | paused
deriving DecidableEq, Repr

/-- The causes of a pause (R65). -/
inductive PauseCause where
  | auctioneer | supply | journal
deriving DecidableEq, Repr

/-- The reasons of a HALT frame, in the order of their codes (R198). -/
inductive HaltReason where
  | stop | pause | runout
deriving DecidableEq, Repr

/-- A given quantity (R93). -/
inductive Given where
  | stems (q : Nat)
  | takeAll
deriving DecidableEq, Repr

/-- A winner record, or a stop candidate, whose hold amount is absent and stands as 0 (R93). -/
structure Winner where
  desk : Nat
  buyer : Option Nat
  position : Nat
  price : Nat
  hold : Nat
  given : Option Given
deriving DecidableEq, Repr

/-- The kinds of a begin (R71, R72). A start is told apart by what asked for it. -/
inductive BeginKind where
  | startCommand | startPending | restart | resume | rehearsal
deriving DecidableEq, Repr

/-- A waiting begin (R73). -/
structure WaitBegin where
  kind : BeginKind
  start : Nat
deriving DecidableEq, Repr

/-- A waiting halt (R77), the cause of a waiting pause, and, for reason STOP, the stop candidate and the halt it took
the place of (R100). -/
structure WaitHalt where
  reason : HaltReason
  position : Nat
  cause : Option PauseCause
  candidate : Option Winner
  replaced : Option HaltReason
deriving DecidableEq, Repr

/-- A clock context (R64, R65). `timer` is the time left on the timer of its state, if that timer runs. `stood` is the
position that the clock last stood at when it last let go of a lot, which a void brings back (R65, log entry 18). -/
structure Clock where
  set : Settings
  rehearsal : Bool
  state : ClockState
  lot : Option Nat
  rehearsalRun : Bool
  startPrice : Option Nat
  reserve : Option Nat
  position : Option Nat
  stood : Option Nat
  tag : Nat
  nextStart : Option Nat
  pausePending : Bool
  cause : Option PauseCause
  reserved : Bool
  winner : Option Winner
  lastSold : Option Nat
  waitBegin : Option WaitBegin
  waitHalt : Option WaitHalt
  timer : Option Nat
  responses : List Nat
deriving DecidableEq, Repr

/-! ## Account unit: the tables that are not retained (R132, R143) -/

/-- The values of a fee class (R132). -/
structure FeeClass where
  stemFee : Nat
  percentage : Nat
  minimum : Nat
deriving DecidableEq, Repr

/-- A desk table entry (R143). -/
structure Desk where
  buyer : Option Nat
  reachable : Bool
  undelivered : Nat
deriving DecidableEq, Repr

/-! ## Desk-line controller (R166 to R179) -/

/-- A frame of the inbound queue: a good desk frame without its check byte. -/
structure DeskFrame where
  cls : Nat
  arb : BitVec 16
  source : Nat
  payload : List Byte
deriving DecidableEq, Repr

/-- The reply codes sent to desks, in the order of their codes (R198). -/
inductive DeskCode where
  | accepted | won | outbid | late | taken | paused | wrongRun | credit | suspended | notSignedIn | notWinner
  | quantitySet | unknownBadge | inUse | deskBusy | winner | signedIn | signedOut
deriving DecidableEq, Repr

/-- The winner marks of STATUS_ASK (R176). -/
inductive WinMark where
  | none | provisional | held
deriving DecidableEq, Repr

/-- The detail carried by a REPLY (R177, R198). -/
inductive ReplyDetail where
  | nothing
  | positionPrice (position : Option Nat) (price : Option Nat)
  | runTag (tag : Nat)
  | sold (stems position price : Nat)
  | badge (badge : Option Nat)
  | badgeMarks (badge : Option Nat) (marks : List WinMark)
deriving DecidableEq, Repr

/-- The frames that the part sends (R166, R198). A REPLY to a service frame has no clock. -/
inductive OutFrame where
  | run (clock tag startPrice step interval start reserve : Nat) (rehearsal : Bool)
  | halt (clock tag : Nat) (reason : HaltReason) (position price : Nat)
  | sale (clock tag : Nat) (rehearsal : Bool) (desk position price stems lot catalogue remaining : Nat)
  | announce (clock position lot catalogue remaining unit minTake reserve : Nat) (startPrice : Option Nat)
      (runouts : Nat)
  | reply (desk : Nat) (code : DeskCode) (clock : Option Nat) (tag : Nat) (detail : ReplyDetail)
deriving DecidableEq, Repr

/-- A place of the outbound queue: the frame and the number of times it has been sent (R171). -/
structure OutPlace where
  frame : OutFrame
  sent : Nat
deriving DecidableEq, Repr

/-- The blocks that can wait for an outbound place (R173). -/
inductive Producer where
  | clock (c : Nat)
  | presentation
deriving DecidableEq, Repr

/-- The kinds of frame that can be waited for (R173). -/
inductive WaitKind where
  | halt | sale | run | announce
deriving DecidableEq, Repr

/-- A wait list entry; the list is in the order of joining (R173). -/
structure WaitEntry where
  who : Producer
  kind : WaitKind
deriving DecidableEq, Repr

/-- The frame that the part has on the line. `orphan` says that a floor reset has emptied the queue under it: it is
sent to its end and not resent (R179). -/
structure Sending where
  frame : OutFrame
  wire : WireFrame
  orphan : Bool
deriving DecidableEq, Repr

/-- The desk-line controller. -/
structure Line where
  inbound : List DeskFrame
  outbound : List OutPlace
  waits : List WaitEntry
  sending : Option Sending
  /-- The acknowledge slot that the part drives, or drove last: dominant (true) for a desk frame that it took, recessive
  for a desk frame that it did not take and for its own frames (R168). -/
  ack : Bool
deriving DecidableEq, Repr

/-! ## Port controller (R180 to R195) -/

/-- The port reply codes, in the order of their codes (R196). -/
inductive ReplyCode where
  | ok | notPermitted | noRecord | wrongState | full | empty | routeInvalid | lotsOpen | clockBusy | notAnnounced
  | mode | journalFull | supply | winner | unknownCommand
deriving DecidableEq, Repr

/-- A reply in a reply slot (R181). -/
structure Reply where
  tag : Nat
  code : ReplyCode
  fields : List Byte
deriving DecidableEq, Repr

/-- The long commands (R184); a report names its clock. -/
inductive XferKind where
  | lotWrite | layoutWrite
  | report (clock : Nat)
  | closeAll
deriving DecidableEq, Repr

/-- An open transfer (R180). `expected` is absent for the account walk; `next` is its next account. -/
structure Xfer where
  kind : XferKind
  expected : Option Nat
  done : Nat
  next : Nat
deriving DecidableEq, Repr

/-- A last transfer outcome (R180). -/
structure LastXfer where
  complete : Bool
  kind : XferKind
  done : Nat
deriving DecidableEq, Repr

/-- The notice classes (R188). -/
inductive Notice where
  | supply | retention | intrusion | deskUnreachable | accountOver | commandAborted
  | clockPaused | clockSold | clockRunout | lotReady | journalLow
  | moveStalled | moveDone | moveLaunched | trainCleared
  | invoiceDone | journalPending
deriving DecidableEq, Repr

/-- The detail of a notice's latest cause (R188); `none` before the first. -/
inductive Detail where
  | none
  | supply (restored : Bool)
  | retention (lots accounts entries : Nat) (rebuilt : Bool)
  | number (n : Nat)
  | aborted (port : Port) (done : Nat)
deriving DecidableEq, Repr

/-- A notice flag (R180). -/
structure Flag where
  pending : Bool
  again : Bool
  detail : Detail
deriving DecidableEq, Repr

/-- A port context (R180) and the bytes it returned in its latest exchange (R181). The flags are by priority, 1 being
the highest (R188). -/
structure PortCtx where
  mailbox : List Byte
  slot : Option Reply
  busy : Bool
  xfer : Option Xfer
  last : Option LastXfer
  flags : Tab Flag
  mask : BitVec 8
  returned : List Byte
deriving DecidableEq, Repr

/-- The four port contexts. -/
structure Ports where
  sup : PortCtx
  auc : PortCtx
  yrd : PortCtx
  fin : PortCtx
deriving DecidableEq, Repr

/-! ## Supply monitor (R158, R160) -/

/-- The states of the supply monitor. -/
inductive Monitor where
  | off | starting | normal | low
deriving DecidableEq, Repr

/-- What the main supply stands at: at or above WARN for 100 ms, below WARN, or below FAIL. -/
inductive SupplyLevel where
  | good | belowWarn | belowFail
deriving DecidableEq, Repr

/-- The supply monitor, and whether the reset line is driven active. -/
structure Power where
  monitor : Monitor
  level : SupplyLevel
  resetActive : Bool
deriving DecidableEq, Repr

/-- The part. -/
structure State where
  lots : Tab LotCell
  accounts : Tab AcctCell
  journal : Journal
  change : Option ChangeCell
  yard : Yard
  sense : Tab Bool
  pres : Tab Pres
  rotation : Nat
  clocks : Tab Clock
  fees : Tab FeeClass
  desks : Tab Desk
  line : Line
  ports : Ports
  floorTime : Nat
  power : Power
  pending : List Instr
deriving DecidableEq, Repr

/-- The part has no fault that stops it: no constructor. -/
inductive Fault where
deriving DecidableEq, Repr

/-- Why a step has no meaning. -/
inductive Refusal where
  /-- A command that has no meaning in the model yet; raised by exec's arms alone. Safe. -/
  | notModelled (mnemonic : String)
deriving DecidableEq, Repr

/-! ## Reset values -/

/-- A FREE slot (log entry 1). -/
def LotCell.free : LotCell := { lot := none, found := none }

/-- A VACANT account: amounts 0, limit 0, fee class 0, every optional field absent (R128). -/
def Account.vacant : Account :=
  { state := .vacant, isOver := false, saturated := false, badge := none, limit := 0, openAmt := 0, billedAmt := 0,
    heldAmt := 0, feeClass := 0, bay := none, desk := none, entryCount := 0, firstSeq := none, lastSeq := none,
    lastInvoice := none }

def AcctCell.vacant : AcctCell := { acct := Account.vacant, found := none }

/-- The journal's values with no entry ever appended (R150, log entry 1). -/
def JournalValues.empty : JournalValues := { used := 0, reserved := 0, newest := none, oldestPlace := 0 }

def Journal.empty : Journal :=
  { copy1 := { values := JournalValues.empty, found := none },
    copy2 := { values := JournalValues.empty, found := none }, places := [] }

/-- A segment after power-up: not defined, FREE (R45). -/
def Segment.undefined : Segment := { layout := none, state := .free, level := false, timing := none }

/-- An EMPTY train (R45). -/
def Train.empty : Train :=
  { state := .empty, lots := [], head := none, occupied := [], move := none, prior := none, cause := none,
    clock := none, timer := none }

/-- The yard controller after power-up (R45). -/
def Yard.reset : Yard :=
  { windowLength := 30, transitTimeout := 10, segs := [], trains := [], moves := [], windows := [] }

/-- What the presentation unit holds for a clock after power-up (R62). -/
def Pres.reset : Pres :=
  { queue := [], train := none, current := none, unrun := false, pending := none, letGo := none, ready := none }

/-- The default settings (R64). -/
def Settings.default : Settings :=
  { step := 10, interval := 40, span := 40, grace := 1, settle := 60, hold := 6000, restartDelay := 1000,
    restartRaise := 5, depth := 2, lead := 3000, pause := 1000, autoAdvance := false, autoStart := false,
    rehearsalStart := 1000, rehearsalReserve := 100 }

/-- A clock context after power-up (R90). -/
def Clock.reset : Clock :=
  { set := Settings.default, rehearsal := false, state := .idle, lot := none, rehearsalRun := false,
    startPrice := none, reserve := none, position := none, stood := none, tag := 0, nextStart := none,
    pausePending := false, cause := none, reserved := false, winner := none, lastSold := none, waitBegin := none, waitHalt := none,
    timer := none, responses := [] }

/-- A fee class after power-up (R132). -/
def FeeClass.zero : FeeClass := { stemFee := 0, percentage := 0, minimum := 0 }

/-- A desk entry after power-up (R147). -/
def Desk.reset : Desk := { buyer := none, reachable := true, undelivered := 0 }

/-- The desk-line controller after power-up (R178). -/
def Line.reset : Line := { inbound := [], outbound := [], waits := [], sending := none, ack := false }

/-- A clear notice flag with no cause recorded. -/
def Flag.clear : Flag := { pending := false, again := false, detail := .none }

/-- A port context after power-up, with `n` notice classes, all enabled (R180). -/
def PortCtx.reset (n : Nat) : PortCtx :=
  { mailbox := [], slot := none, busy := false, xfer := none, last := none, flags := [],
    mask := BitVec.ofNat 8 (2 ^ n - 1), returned := [] }

/-- The ports after power-up, before RETENTION is raised: SUP has 6 classes, AUC 5, YRD 5 and FIN 4 (R188). -/
def Ports.reset : Ports :=
  { sup := PortCtx.reset 6, auc := PortCtx.reset 5, yrd := PortCtx.reset 5, fin := PortCtx.reset 4 }

/-- The ports right after the power-up sequence: RETENTION, priority 2, is pending on SUP (R163). -/
def Ports.started (lots accounts entries : Nat) (rebuilt : Bool) : Ports :=
  { Ports.reset with
    sup := { PortCtx.reset 6 with
      flags := [(2, { pending := true, again := false, detail := .retention lots accounts entries rebuilt })] } }

/-- The part right after the power-up sequence, in NORMAL, with nothing in the retained store (log entries 1 and 2). -/
def State.reset : State :=
  { lots := [], accounts := [], journal := Journal.empty, change := none, yard := Yard.reset, sense := [], pres := [],
    rotation := 0, clocks := [], fees := [], desks := [], line := Line.reset, ports := Ports.started 0 0 0 false,
    floorTime := 0, power := { monitor := .normal, level := .good, resetActive := false }, pending := [] }

end Sys2Proof.Machine
end

