-- ==== Sys2Proof/Machine/Tab.lean ====
section
/-! DEFINITION. Machine/Tab.lean: reading and writing a numbered table in its canonical form. -/

namespace Sys2Proof

/-- The record of number `k`; `d` is what an unlisted number holds. -/
def Tab.get {α : Type} (d : α) : Tab α → Nat → α
  | [], _ => d
  | c :: t, k => if c.1 = k then c.2 else Tab.get d t k

/-- The table without any record of number `k`. -/
def Tab.erase {α : Type} (t : Tab α) (k : Nat) : Tab α := t.filter (fun c => c.1 != k)

/-- Puts a record in its place by number. -/
def Tab.place {α : Type} : Tab α → Nat → α → Tab α
  | [], k, v => [(k, v)]
  | c :: t, k, v => if k < c.1 then (k, v) :: c :: t else c :: Tab.place t k v

/-- Writes the record of number `k`; a record equal to what an unlisted number holds is not listed. -/
def Tab.set {α : Type} [DecidableEq α] (d : α) (t : Tab α) (k : Nat) (v : α) : Tab α :=
  if v = d then Tab.erase t k else Tab.place (Tab.erase t k) k v

/-- Applies `f` to every record; `f` leaves what an unlisted number holds as it is. -/
def Tab.mapAll {α : Type} [DecidableEq α] (d : α) (f : Nat → α → α) (t : Tab α) : Tab α :=
  (t.map fun c => (c.1, f c.1 c.2)).filter fun c => c.2 ≠ d

/-- The canonical form: numbers strictly rising, no record equal to what an unlisted number holds. -/
def Tab.wf {α : Type} [DecidableEq α] (d : α) : Tab α → Bool
  | [] => true
  | [c] => c.2 ≠ d
  | c :: e :: t => c.2 ≠ d && c.1 < e.1 && Tab.wf d (e :: t)

end Sys2Proof
end

