-- ==== Sys2Proof/Machine/Ops.lean ====
section
/-! DEFINITION. Machine/Ops.lean: reading and writing each numbered record of the part, and clamping. -/

namespace Sys2Proof

/-- A lot state is closed (01 section 1.2). -/
def LotState.closed : LotState → Bool
  | .soldOut | .partSold | .unsold | .withdrawn => true
  | .registered | .onTrain | .queued | .announced | .onClock => false

end Sys2Proof

namespace Sys2Proof.Machine

/-- A value clamped into a range (R10, R20, R66, R132, R134). -/
def clamp (lo hi x : Nat) : Nat := max lo (min hi x)

/-- A signed value clamped into a range. -/
def clampInt (lo hi x : Int) : Int := max lo (min hi x)

/-- The part takes frames and events: the supply monitor is NORMAL or LOW (R158, R160, R192). -/
def State.isOn (s : State) : Bool := s.power.monitor == .normal || s.power.monitor == .low

/-- The main supply is at or above WARN for the checks of R71 and R29: the monitor is not LOW (R159). -/
def State.supplyOk (s : State) : Bool := s.power.monitor == .normal

/-! ## Lots -/

/-- The lot held in a slot; none for a FREE slot (R1). -/
def State.lot (s : State) (k : Nat) : Option LotRec := (Tab.get LotCell.free s.lots k).lot

/-- Writes a slot whole and renews its check field (R15). -/
def State.setLot (s : State) (k : Nat) (r : Option LotRec) : State :=
  { s with lots := Tab.set LotCell.free s.lots k { lot := r, found := none } }

/-- Changes the lot of a slot; a FREE slot is left as it is. -/
def State.updLot (s : State) (k : Nat) (f : LotRec → LotRec) : State :=
  match s.lot k with
  | none => s
  | some r => s.setLot k (some (f r))

/-- The slot holds a lot in state `q`. -/
def State.lotIs (s : State) (k : Nat) (q : LotState) : Bool :=
  match s.lot k with
  | none => false
  | some r => r.state == q

/-- The slot holds a closed lot. -/
def State.lotClosed (s : State) (k : Nat) : Bool :=
  match s.lot k with
  | none => false
  | some r => r.state.closed

/-! ## Accounts, fee classes, desks -/

def State.acct (s : State) (b : Nat) : Account := (Tab.get AcctCell.vacant s.accounts b).acct

/-- Writes an account whole and renews its check field (R128). -/
def State.setAcct (s : State) (b : Nat) (a : Account) : State :=
  { s with accounts := Tab.set AcctCell.vacant s.accounts b { acct := a, found := none } }

def State.fee (s : State) (f : Nat) : FeeClass := Tab.get FeeClass.zero s.fees f

def State.desk (s : State) (d : Nat) : Desk := Tab.get Desk.reset s.desks d

def State.setDesk (s : State) (d : Nat) (e : Desk) : State :=
  { s with desks := Tab.set Desk.reset s.desks d e }

/-! ## Yard -/

def State.seg (s : State) (g : Nat) : Segment := Tab.get Segment.undefined s.yard.segs g

def State.setSeg (s : State) (g : Nat) (r : Segment) : State :=
  { s with yard := { s.yard with segs := Tab.set Segment.undefined s.yard.segs g r } }

def State.setSegState (s : State) (g : Nat) (q : SegState) : State :=
  s.setSeg g { s.seg g with state := q }

def State.train (s : State) (t : Nat) : Train := Tab.get Train.empty s.yard.trains t

def State.setTrain (s : State) (t : Nat) (r : Train) : State :=
  { s with yard := { s.yard with trains := Tab.set Train.empty s.yard.trains t r } }

def State.window (s : State) (g : Nat) : List Launch := Tab.get [] s.yard.windows g

def State.setWindow (s : State) (g : Nat) (w : List Launch) : State :=
  { s with yard := { s.yard with windows := Tab.set [] s.yard.windows g w } }

def State.setMoves (s : State) (l : List Nat) : State := { s with yard := { s.yard with moves := l } }

/-- The level on a segment's sense line (R22). -/
def State.sensed (s : State) (g : Nat) : Bool := Tab.get false s.sense g

/-! ## Presentation and clocks -/

def State.presOf (s : State) (c : Nat) : Pres := Tab.get Pres.reset s.pres c

def State.setPres (s : State) (c : Nat) (r : Pres) : State :=
  { s with pres := Tab.set Pres.reset s.pres c r }

def State.clock (s : State) (c : Nat) : Clock := Tab.get Clock.reset s.clocks c

def State.setClock (s : State) (c : Nat) (k : Clock) : State :=
  { s with clocks := Tab.set Clock.reset s.clocks c k }

/-! ## Desk line and ports -/

def State.setInbound (s : State) (q : List DeskFrame) : State := { s with line := { s.line with inbound := q } }

def State.setOutbound (s : State) (q : List OutPlace) : State := { s with line := { s.line with outbound := q } }

def State.setWaits (s : State) (w : List WaitEntry) : State := { s with line := { s.line with waits := w } }

/-- What the part has on the line changes. The acknowledge slot of its own frames it drives recessive (R168). -/
def State.setSending (s : State) (f : Option Sending) : State :=
  { s with line := { s.line with sending := f, ack := false } }

/-- The context of a port (R180). -/
def State.port (s : State) : Port → PortCtx
  | .sup => s.ports.sup
  | .auc => s.ports.auc
  | .yrd => s.ports.yrd
  | .fin => s.ports.fin

def State.setPort (s : State) (p : Port) (x : PortCtx) : State :=
  match p with
  | .sup => { s with ports := { s.ports with sup := x } }
  | .auc => { s with ports := { s.ports with auc := x } }
  | .yrd => { s with ports := { s.ports with yrd := x } }
  | .fin => { s with ports := { s.ports with fin := x } }

/-! ## Journal values (R150, R162) -/

/-- The journal's values: the first copy is the one that is read (R162). -/
def State.values (s : State) : JournalValues := s.journal.copy1.values

/-- A change to the journal's values writes both copies, with their check fields renewed (R162). -/
def State.setValues (s : State) (v : JournalValues) : State :=
  { s with journal := { s.journal with
      copy1 := { values := v, found := none }, copy2 := { values := v, found := none } } }

/-- The entry in a journal place. -/
def State.place (s : State) (k : Nat) : Option JEntry := Tab.get none s.journal.places k

def State.setPlace (s : State) (k : Nat) (e : Option JEntry) : State :=
  { s with journal := { s.journal with places := Tab.set none s.journal.places k e } }

/-! ## Walking the clocks and the trains -/

/-- Applies `f` at each number of the list in turn. -/
def State.each (f : Nat → State → State) : List Nat → State → State
  | [], s => s
  | c :: t, s => State.each f t (f c s)

/-- The clock numbers 0 to 5. -/
def clockNumbers : List Nat := List.range Config.clocks

/-- The train numbers that the table lists. -/
def State.trainNumbers (s : State) : List Nat := s.yard.trains.map (·.1)

end Sys2Proof.Machine
end

