-- ==== Sys2Proof/Machine/Flags.lean ====
section
/-! DEFINITION. Machine/Flags.lean: the notice flags, the attention lines and the status summary (R181, R188 to R191,
R196). -/

namespace Sys2Proof

/-- The number of notice classes of a port (R188). -/
def Port.classCount : Port → Nat
  | .sup => 6
  | .auc => 5
  | .yrd => 5
  | .fin => 4

/-- The priorities of a port's classes, highest first. -/
def Port.priorities (p : Port) : List Nat := (List.range p.classCount).map (· + 1)

end Sys2Proof

namespace Sys2Proof.Machine

/-- The priority of a notice class on a port, 1 being the highest; 0 when the port does not have the class (R188). -/
def Notice.priority : Notice → Port → Nat
  | .supply, .sup => 1
  | .retention, .sup => 2
  | .intrusion, .sup => 3
  | .deskUnreachable, .sup => 4
  | .accountOver, .sup => 5
  | .commandAborted, .sup => 6
  | .clockPaused, .auc => 1
  | .clockSold, .auc => 2
  | .clockRunout, .auc => 3
  | .lotReady, .auc => 4
  | .journalLow, .auc => 5
  | .intrusion, .yrd => 1
  | .moveStalled, .yrd => 2
  | .moveDone, .yrd => 3
  | .moveLaunched, .yrd => 4
  | .trainCleared, .yrd => 5
  | .journalLow, .fin => 1
  | .accountOver, .fin => 2
  | .invoiceDone, .fin => 3
  | .journalPending, .fin => 4
  | _, _ => 0

/-- The flag of a port's class of priority `k` (R180). -/
def State.flag (s : State) (p : Port) (k : Nat) : Flag := Tab.get Flag.clear (s.port p).flags k

def State.setFlag (s : State) (p : Port) (k : Nat) (f : Flag) : State :=
  s.setPort p { s.port p with flags := Tab.set Flag.clear (s.port p).flags k f }

/-- Raises a class on a port: the flag becomes pending with the detail, and its again mark is set if it was pending
already (R188). -/
def State.raise (s : State) (p : Port) (n : Notice) (d : Detail) : State :=
  let k := n.priority p
  if k = 0 then s
  else s.setFlag p k { pending := true, again := (s.flag p k).pending, detail := d }

/-- Raises a class on SUP and FIN (ACCOUNT_OVER, R130). -/
def State.raiseOver (s : State) (buyer : Nat) : State :=
  (s.raise .sup .accountOver (.number buyer)).raise .fin .accountOver (.number buyer)

/-- The class of priority `k` is enabled by the mask: bit 0 is priority 1 (R190, R196). -/
def State.enabled (s : State) (p : Port) (k : Nat) : Bool := (s.port p).mask.getLsbD (k - 1)

/-- The highest-priority class of a port that is pending and enabled (R189). -/
def State.nextNotice (s : State) (p : Port) : Option Nat :=
  p.priorities.find? fun k => (s.flag p k).pending && s.enabled p k

/-- The attention line of a port is driven while a class is pending and enabled; it is released while the part is
halted and during the power-up sequence (R191). -/
def State.attention (s : State) (p : Port) : Bool := s.isOn && (s.nextNotice p).isSome

/-- The code of the supply state in the status summary (R196). -/
def Monitor.code : Monitor → Nat
  | .off => 0
  | .starting => 0
  | .normal => 1
  | .low => 2

/-- The code of a port reply code (R196). -/
def ReplyCode.code : ReplyCode → Nat
  | .ok => 0
  | .notPermitted => 1
  | .noRecord => 2
  | .wrongState => 3
  | .full => 4
  | .empty => 5
  | .routeInvalid => 6
  | .lotsOpen => 7
  | .clockBusy => 8
  | .notAnnounced => 9
  | .mode => 10
  | .journalFull => 11
  | .supply => 12
  | .winner => 13
  | .unknownCommand => 14

/-- The status summary byte: busy, attention line, supply state, reply slot empty (R196). -/
def State.statusByte (s : State) (p : Port) : Byte :=
  let x := s.port p
  BitVec.ofNat 8
    ((if x.busy || s.power.monitor == .starting then 128 else 0) + (if s.attention p then 64 else 0) +
      16 * s.power.monitor.code + (if x.slot.isNone then 8 else 0))

end Sys2Proof.Machine
end

