-- ==== Sys2Proof/Machine/Operands.lean ====
section
/-! DEFINITION. Machine/Operands.lean: the codes of enumerated values, and the bytes of the values that replies carry
(R196, R197). -/

namespace Sys2Proof

def LotState.code : LotState → Nat
  | .registered => 1
  | .onTrain => 2
  | .queued => 3
  | .announced => 4
  | .onClock => 5
  | .soldOut => 6
  | .partSold => 7
  | .unsold => 8
  | .withdrawn => 9

def AcctState.code : AcctState → Nat
  | .vacant => 0
  | .active => 1
  | .suspended => 2
  | .damaged => 3

def Port.code : Port → Nat
  | .sup => 0
  | .auc => 1
  | .yrd => 2
  | .fin => 3

end Sys2Proof

namespace Sys2Proof.Machine

/-- The code of the state of a slot: FREE is 0, then the order of R1. -/
def lotStateCode : Option LotRec → Nat
  | none => 0
  | some r => r.state.code

def TrainState.code : TrainState → Nat
  | .empty => 0
  | .stored => 1
  | .queued => 2
  | .moving => 3
  | .stalled => 4
  | .stopped => 5
  | .presenting => 6
  | .cleared => 7
  | .atBay => 8

/-- A prior state is coded by the order of its own values (R24, R197). -/
def PriorState.code : PriorState → Nat
  | .stored => 0
  | .stopped => 1
  | .cleared => 2
  | .atBay => 3

def StallCause.code : StallCause → Nat
  | .transit => 0
  | .intrusion => 1
  | .order => 2

def Origin.code : Origin → Nat
  | .train => 0
  | .reOffer => 1
  | .givenBack => 2

def PendKind.code : PendKind → Nat
  | .manual => 0
  | .auto => 1

def ClockState.code : ClockState → Nat
  | .idle => 0
  | .loaded => 1
  | .running => 2
  | .settling => 3
  | .held => 4
  | .restartWait => 5
  | .paused => 6

def PauseCause.code : PauseCause → Nat
  | .auctioneer => 0
  | .supply => 1
  | .journal => 2

def HaltReason.code : HaltReason → Nat
  | .stop => 0
  | .pause => 1
  | .runout => 2

/-- The kinds of a waiting begin in the order of 04 section 4.4: start, restart, resume, rehearsal. -/
def BeginKind.code : BeginKind → Nat
  | .startCommand => 0
  | .startPending => 0
  | .restart => 1
  | .resume => 2
  | .rehearsal => 3

/-- The long commands in the order of R184. -/
def XferKind.code : XferKind → Nat
  | .lotWrite => 0
  | .layoutWrite => 1
  | .report _ => 2
  | .closeAll => 3

/-- The port of a code (R196). -/
def portOfCode : Nat → Option Port
  | 0 => some .sup
  | 1 => some .auc
  | 2 => some .yrd
  | 3 => some .fin
  | _ => none

def DeskCode.code : DeskCode → Nat
  | .accepted => 0
  | .won => 1
  | .outbid => 2
  | .late => 3
  | .taken => 4
  | .paused => 5
  | .wrongRun => 6
  | .credit => 7
  | .suspended => 8
  | .notSignedIn => 9
  | .notWinner => 10
  | .quantitySet => 11
  | .unknownBadge => 12
  | .inUse => 13
  | .deskBusy => 14
  | .winner => 15
  | .signedIn => 16
  | .signedOut => 17

def WinMark.code : WinMark → Nat
  | .none => 0
  | .provisional => 1
  | .held => 2

/-- A clock or position, or its absence as FFh (R197). -/
def optF1 : Option Nat → List Byte := optF 1
/-- A 2-byte number whose range includes 0, or FFFFh (R197). -/
def optF2 : Option Nat → List Byte := optF 2
/-- A 2-byte number whose range excludes 0, or 0 (R197). -/
def opt02 : Option Nat → List Byte := opt0 2
/-- A time or an age of 4 bytes, or FFh in every byte (R196). -/
def optF4 : Option Nat → List Byte := optF 4
/-- A price, or 0 when absent (R197). -/
def opt03 : Option Nat → List Byte := opt0 3
/-- A sequence number, or 0 when absent (R197). -/
def opt04 : Option Nat → List Byte := opt0 4
/-- An amount of 6 bytes, or FFh in every byte. -/
def optAmount : Option Int → List Byte
  | none => List.replicate 6 0xFF#8
  | some x => s6 x

/-- The detail of a notice in the order R188 lists it; `n` is the number of bytes of the detail when
that is fixed by the class alone (R196). A class with no cause since power-up shows zero bytes (log entry 53). -/
def Detail.bytes (n : Nat) : Detail → List Byte
  | .none => List.replicate n 0#8
  | .supply r => onByte r
  | .retention a b c r => u2 a ++ u2 b ++ u2 c ++ onByte r
  | .number k => natBytes n k
  | .aborted p d => u1 p.code ++ u2 d

/-- The number of bytes of the detail of a port's class of priority `k` (R188, R196). -/
def detailWidth : Port → Nat → Nat
  | .sup, 1 => 1
  | .sup, 2 => 7
  | .sup, 6 => 3
  | .sup, _ => 2
  | .auc, 5 => 2
  | .auc, _ => 1
  | .yrd, 1 => 2
  | .yrd, _ => 1
  | .fin, _ => 2

end Sys2Proof.Machine
end

