-- ==== Sys2Proof/Machine/Wire.lean ====
section
/-! DEFINITION. Machine/Wire.lean: the check polynomials, the desk-line frames as bytes, arbitration, and the journal
entry as bytes (R166, R167, R170, R198, R199, R200). -/

namespace Sys2Proof.Machine

/-! ## Check fields (R199, R200) -/

/-- The lowest `w` bits of a number, most significant first. -/
def bitsOf (w n : Nat) : List Bool := (List.range w).reverse.map n.testBit

/-- The bits of bytes, each fed most significant bit first. -/
def byteBits (bs : List Byte) : List Bool := bs.flatMap fun b => bitsOf 8 b.toNat

/-- One bit fed to a check register, with no reflection. -/
def crcBit {w : Nat} (poly reg : BitVec w) (b : Bool) : BitVec w :=
  if reg.msb != b then (reg <<< 1) ^^^ poly else reg <<< 1

/-- CRC-8 with x^8 + x^2 + x + 1, starting from 0 (R199). -/
def crc8 (bits : List Bool) : BitVec 8 := bits.foldl (crcBit 0x07#8) 0#8

/-- CRC-16 with x^16 + x^12 + x^5 + 1, starting from FFFFh (R200). -/
def crc16 (bs : List Byte) : BitVec 16 := (byteBits bs).foldl (crcBit 0x1021#16) 0xFFFF#16

/-- The check field of a lot slot as stored (R15). -/
def LotCell.checkField (c : LotCell) : BitVec 16 := c.found.getD (crc16 (Config.lotBytes c.lot))

/-- The lot slot passes its check (R15). -/
def LotCell.passes (c : LotCell) : Bool :=
  match c.found with
  | none => true
  | some w => w == crc16 (Config.lotBytes c.lot)

/-- The account passes its check (R147). -/
def AcctCell.passes (c : AcctCell) : Bool :=
  match c.found with
  | none => true
  | some w => w == crc16 (Config.accountBytes c.acct)

/-- The copy of the journal's values passes its check (R162). -/
def ValuesCopy.passes (c : ValuesCopy) : Bool :=
  match c.found with
  | none => true
  | some w => w == crc16 (Config.valuesBytes c.values)

/-- The change record passes its check (R161). -/
def ChangeCell.passes (c : ChangeCell) : Bool :=
  match c.found with
  | none => true
  | some w => w == crc16 (Config.changeBytes c.change)

/-! ## The journal entry (R200) -/

/-- The kind of an entry as written. -/
def entryKindCode : EntryKind → Nat
  | .purchase => 0
  | .void => 1

/-- Bytes 0 to 49 of a journal entry, with the given kind byte. -/
def entryBody (kind : Nat) (e : JEntry) : List Byte :=
  u4 e.seq ++ u1 kind ++ u1 e.clock ++ u4 e.time ++ u2 e.lot ++ u4 e.catalogue ++ u2 e.buyer ++ u2 e.desk ++
  u1 e.tag ++ u1 e.position ++ u4 e.price ++ u2 e.stems ++ u6 e.gross ++ u6 e.fee ++ u6 e.net ++ opt04 e.voided

/-- The check field of a journal entry: over bytes 0 to 49 as written. -/
def entryCheck (e : JEntry) : BitVec 16 := crc16 (entryBody (entryKindCode e.kind) e)

/-- The entry passes its check. -/
def entryPasses (e : JEntry) : Bool := e.check == entryCheck e

/-- The 52 bytes of an entry as JOURNAL_READ returns it: kind 2 when it is marked DAMAGED (R154, R197). -/
def entryBytes (e : JEntry) : List Byte :=
  entryBody (if e.damaged then 2 else entryKindCode e.kind) e ++ u2 e.check.toNat

/-! ## Frames that the part sends (R166, R198) -/

/-- The frame is a REPLY (R166). -/
def OutFrame.isReply : OutFrame → Bool
  | .reply _ _ _ _ _ => true
  | .run _ _ _ _ _ _ _ _ | .halt _ _ _ _ _ | .sale _ _ _ _ _ _ _ _ _ _ | .announce _ _ _ _ _ _ _ _ _ _ => false

/-- The arbitration word of a class 0 frame: the addressee of a REPLY, 0 for a broadcast (R166). -/
def OutFrame.arb : OutFrame → Nat
  | .reply d _ _ _ _ => d
  | .run _ _ _ _ _ _ _ _ | .halt _ _ _ _ _ | .sale _ _ _ _ _ _ _ _ _ _ | .announce _ _ _ _ _ _ _ _ _ _ => 0

/-- The winner marks in 2 bytes, clock 0 in bits 11 and 10 (R198). -/
def marksBytes (marks : List WinMark) : List Byte := u2 (marks.foldl (fun n m => n * 4 + m.code) 0)

/-- The detail of a REPLY (R198). -/
def ReplyDetail.bytes : ReplyDetail → List Byte
  | .nothing => []
  | .positionPrice p x => optF1 p ++ opt03 x
  | .runTag t => u1 t
  | .sold q p x => u2 q ++ u1 p ++ u3 x
  | .badge b => opt03 b
  | .badgeMarks b m => opt03 b ++ marksBytes m

/-- The 2 bytes of the minimum take in stems of an ANNOUNCE (log entry 11). -/
def minTakeBytes (n : Nat) : List Byte := if n < 65536 then u2 n else u2 (Config.wideMinTake n).toNat

/-- The payload of a frame, its kind code first (R198). Of a run-out count above 255 its byte holds the low 8 bits (log
entry 61). -/
def OutFrame.payload : OutFrame → List Byte
  | .run c t s d i b m r => u1 0x01 ++ u1 c ++ u1 t ++ u3 s ++ u2 d ++ u1 i ++ u1 b ++ u3 m ++ onByte r
  | .halt c t r p x => u1 0x02 ++ u1 c ++ u1 t ++ u1 r.code ++ u1 p ++ u3 x
  | .sale c t r d p x q l n m =>
    u1 0x03 ++ u1 c ++ u1 t ++ onByte r ++ u2 d ++ u1 p ++ u3 x ++ u2 q ++ u2 l ++ u4 n ++ u2 m
  | .announce c p l n m u k r s o =>
    u1 0x04 ++ u1 c ++ u1 p ++ u2 l ++ u4 n ++ u2 m ++ u2 u ++ minTakeBytes k ++ u3 r ++ opt03 s ++ u1 o
  | .reply _ k c t d => u1 0x05 ++ u1 k.code ++ optF1 c ++ u1 t ++ d.bytes

/-- The bits under the check byte: class, arbitration word, source, length, then the payload (R166, R199). -/
def frameBits (cls : Nat) (arb : BitVec 16) (source length : Nat) (payload : List Byte) : List Bool :=
  bitsOf 2 cls ++ bitsOf 16 arb.toNat ++ bitsOf 9 source ++ bitsOf 5 length ++ byteBits payload

/-- The frame as the part puts it on the line, source 0, its check byte computed then (R199). -/
def OutFrame.wire (f : OutFrame) : WireFrame :=
  let arb := BitVec.ofNat 16 f.arb
  { cls := 0, arb := arb, source := 0, length := f.payload.length, payload := f.payload,
    check := crc8 (frameBits 0 arb 0 f.payload.length f.payload) }

/-! ## Arbitration (R167) -/

/-- Class, arbitration word and source read as one number. -/
def arbitration (f : WireFrame) : Nat := f.cls * 2 ^ 25 + f.arb.toNat * 2 ^ 9 + f.source

/-- Of several frames begun together the one whose number is lowest reaches the line. -/
def lineWinner : List WireFrame → Option WireFrame
  | [] => none
  | f :: t =>
    match lineWinner t with
    | none => some f
    | some g => if arbitration f ≤ arbitration g then some f else some g

/-! ## Frames from the desks (R166, R170, R198, R199) -/

/-- The frame is received good: length 0 to 24 and an agreeing check byte (R166). -/
def frameGood (f : WireFrame) : Bool :=
  f.length ≤ 24 && f.payload.length == f.length &&
  f.check == crc8 (frameBits f.cls f.arb f.source f.length f.payload)

/-- A good frame that the part receives: class 1 to 3 from a desk (R166, R168). -/
def deskGood (f : WireFrame) : Bool :=
  frameGood f && (f.cls == 1 || f.cls == 2 || f.cls == 3) && f.source != 0

/-- What an inbound frame says when its turn comes. -/
inductive DeskMsg where
  | stop (clock position desk tag : Nat)
  | quantity (clock desk tag : Nat) (given : Given)
  | signIn (desk badge : Nat)
  | signOut (desk : Nat)
  | statusAsk (desk : Nat)
  | malformed
deriving DecidableEq, Repr

/-- The given quantity of a stems field: FFFFh is take-all, and a count above 60,000 is read as 60,000 (R170, R199). -/
def readGiven (n : Nat) : Given := if n = 65535 then .takeAll else .stems (min n 60000)

/-- Reads a frame of the inbound queue: a kind code that does not belong to the class, and a length that is not the
length of its kind, make it malformed (R170, R199). -/
def readDesk (f : DeskFrame) : DeskMsg :=
  match f.cls, f.payload with
  | 1, [k, t] =>
    if k = 0x11#8 then .stop ((f.arb.toNat / 64) % 8) ((f.arb.toNat / 512) % 128) f.source t.toNat else .malformed
  | 2, [k, t, a, b] =>
    if k = 0x12#8 then .quantity ((f.arb.toNat / 8192) % 8) f.source t.toNat (readGiven (bytesNat [a, b]))
    else .malformed
  | 3, [k] => if k = 0x32#8 then .signOut f.source else if k = 0x33#8 then .statusAsk f.source else .malformed
  | 3, [k, a, b, c] => if k = 0x31#8 then .signIn f.source (bytesNat [a, b, c]) else .malformed
  | _, _ => .malformed

end Sys2Proof.Machine
end

