-- ==== Sys2Proof/Machine/Journal.lean ====
section
/-! DEFINITION. Machine/Journal.lean: sequence numbers, reservations, appends and releases of the purchase journal (R150
to R156). -/

namespace Sys2Proof.Machine

/-- The sequence after `n`; the one after 4,294,967,295 is 1 (R150). -/
def seqNext (n : Nat) : Nat := if n = Config.lastSequence then 1 else n + 1

/-- How far sequence `a` was issued after sequence `b`, counting round from 4,294,967,295 to 1 (R150). -/
def seqDist (a b : Nat) : Nat := (a + Config.lastSequence - b % Config.lastSequence) % Config.lastSequence

/-- `a` was issued later than `b`: of two sequences within 2,147,483,647 of each other (R150). -/
def seqLater (a b : Nat) : Bool := 0 < seqDist a b && seqDist a b ≤ 2147483647

/-- The sequence `k` places before `n`. -/
def seqBack (n k : Nat) : Nat :=
  (n + Config.lastSequence - 1 - k % Config.lastSequence) % Config.lastSequence + 1

end Sys2Proof.Machine
namespace Sys2Proof
open Machine

/-- The oldest sequence held: the newest less used plus 1; absent when used is 0 (R150, R154). -/
def JournalValues.oldest (v : JournalValues) : Option Nat :=
  match v.newest with
  | none => none
  | some n => if v.used = 0 then none else some (seqBack n (v.used - 1))

/-- The newest sequence as replies give it: absent when used is 0 (R154). -/
def JournalValues.newestHeld (v : JournalValues) : Option Nat := if v.used = 0 then none else v.newest

/-- The journal holds sequence `q`: used is above 0 and `q` lies from the oldest to the newest (R150). -/
def JournalValues.holds (v : JournalValues) (q : Nat) : Bool :=
  match v.newest with
  | none => false
  | some n => 0 < q && q ≤ Config.lastSequence && seqDist n q < v.used

/-- Sequence `q` lies ahead of the newest (R154, R155). Sequence 0 is none that was issued (log entry 21). -/
def JournalValues.ahead (v : JournalValues) (q : Nat) : Bool :=
  match v.newest with
  | none => true
  | some n => q != 0 && seqLater q n

/-- The place of a held sequence. -/
def JournalValues.placeOf (v : JournalValues) (q : Nat) : Nat :=
  match v.newest with
  | none => v.oldestPlace
  | some n => (v.oldestPlace + (v.used - 1 - seqDist n q)) % Config.journalSize

end Sys2Proof
namespace Sys2Proof.Machine

/-- Used plus reserved. -/
def State.journalSum (s : State) : Nat := s.values.used + s.values.reserved

/-- No entry is free: used plus reserved is 8192 (R157). -/
def State.journalIsFull (s : State) : Bool := Config.journalSize ≤ s.journalSum

/-- JOURNAL_LOW to FIN and AUC after a rise of used plus reserved, when the sum is 7,936 or more; the detail is the
number of free entries (R153). -/
def State.judgeLow (s : State) : State :=
  if Config.journalLowMark ≤ s.journalSum then
    let d := Detail.number (Config.journalSize - s.journalSum)
    (s.raise .fin .journalLow d).raise .auc .journalLow d
  else s

/-- The clock takes a reservation, if it holds none (R71, R83, R151). The caller has judged that one is free. -/
def State.takeReservation (s : State) (c : Nat) : State :=
  let k := s.clock c
  if k.reserved then s
  else
    ((s.setValues { s.values with reserved := s.values.reserved + 1 }).setClock c { k with reserved := true }).judgeLow

/-- The clock gives up its reservation, if it holds one (R76, R82, R151). -/
def State.giveUpReservation (s : State) (c : Nat) : State :=
  let k := s.clock c
  if k.reserved then
    (s.setValues { s.values with reserved := s.values.reserved - 1 }).setClock c { k with reserved := false }
  else s

/-- The sequence that the next append takes (R150). -/
def State.nextSeq (s : State) : Nat :=
  match s.values.newest with
  | none => 1
  | some n => seqNext n

/-- Appends an entry in the place after the newest, its check field renewed: newest and used follow, and FIN is given
JOURNAL_PENDING with the used count after it (R152). -/
def State.append (s : State) (e : JEntry) : State :=
  let v := s.values
  let at' := (v.oldestPlace + v.used) % Config.journalSize
  let s1 := s.setPlace at' (some { e with check := entryCheck e })
  let s2 := s1.setValues { v with used := v.used + 1, newest := some e.seq }
  s2.raise .fin .journalPending (.number (v.used + 1))

end Sys2Proof.Machine
namespace Sys2Proof
open Machine

/-- The number of entries that a release up to sequence `n` frees (R155). -/
def JournalValues.freedBy (v : JournalValues) (n : Nat) : Nat :=
  match v.newest with
  | none => 0
  | some w => if v.holds n then v.used - seqDist w n else 0

end Sys2Proof
namespace Sys2Proof.Machine

/-- Frees the `k` oldest entries: their places are cleared, used falls by `k`, the oldest place moves past them
(R155). -/
def State.releaseOldest (s : State) (k : Nat) : State :=
  let v := s.values
  let keep := fun (c : Nat × Option JEntry) =>
    k ≤ (c.1 + Config.journalSize - v.oldestPlace % Config.journalSize) % Config.journalSize
  let s1 := { s with journal := { s.journal with places := s.journal.places.filter keep } }
  s1.setValues { v with used := v.used - k, oldestPlace := (v.oldestPlace + k) % Config.journalSize }

end Sys2Proof.Machine
namespace Sys2Proof
open Machine

/-- The counts and sequences that JOURNAL_READ and JOURNAL_RELEASE return (R154, R155, R197). -/
def JournalValues.bytes (v : JournalValues) : List Byte :=
  u2 v.used ++ u1 v.reserved ++ opt04 v.oldest ++ opt04 v.newestHeld

end Sys2Proof
namespace Sys2Proof.Machine

end Sys2Proof.Machine
end

