-- ==== Sys2Proof/Machine/Money.lean ====
section
/-! DEFINITION. Machine/Money.lean: purchase arithmetic, saturation, exposure and headroom, quantity fitting and invoice
rounding (R108, R116 to R127). -/

namespace Sys2Proof.Machine

/-- The gross amount of `q` stems at price `P` (R117). -/
def grossOf (price q : Nat) : Nat := price * q

/-- The percent fee: rounded to the nearest mil, half a mil upward (R118). -/
def percentFee (gross percentage : Nat) : Nat := (gross * percentage + 5000) / 10000

/-- The fee: the larger of the stem fee plus the percent fee, and the class's minimum fee (R119). -/
def feeOf (f : FeeClass) (price q : Nat) : Nat :=
  max (f.stemFee * q + percentFee (grossOf price q) f.percentage) f.minimum

/-- The net amount: the gross plus the fee (R119). -/
def netOf (f : FeeClass) (price q : Nat) : Nat := grossOf price q + feeOf f price q

/-- An exact result stored as an account amount, within -S to S (R121). -/
def saturate (x : Int) : Int := clampInt (-Config.amountLimit) Config.amountLimit x

/-- The change is saturated: the exact result lies outside -S to S (R121). -/
def overflows (x : Int) : Bool := x < -Config.amountLimit || Config.amountLimit < x

/-- Open, billed and held added together, exactly (R122). -/
def exposureExact (a : Account) : Int := a.openAmt + a.billedAmt + a.heldAmt

/-- The exposure of an account (R122). -/
def exposure (a : Account) : Int := saturate (exposureExact a)

/-- The exposure is saturated high (R122). -/
def saturatedHigh (a : Account) : Bool := Config.amountLimit < exposureExact a

/-- The headroom: the credit limit less the exposure (R122). Of an exposure that is saturated high this is the limit less
S, which ACCOUNT_READ and ACCOUNT_WRITE show (log entry 42); the credit check and the room read `saturatedHigh`. -/
def headroom (a : Account) : Int := saturate (a.limit - exposure a)

/-- The credit check of a hold amount (R98, R122, R123). -/
def creditPasses (a : Account) (hold : Nat) : Bool := !saturatedHigh a && (hold : Int) ≤ headroom a

/-- The room of a held sale: the headroom plus the sale's own hold, S when above it; none when the exposure is
saturated high (R124). -/
def roomOf (a : Account) (hold : Nat) : Option Int :=
  if saturatedHigh a then none else some (min Config.amountLimit (headroom a + hold))

/-- `q` stems at the sale's price fit (R124). -/
def fitsRoom (f : FeeClass) (price : Nat) (room : Option Int) (q : Nat) : Bool :=
  match room with
  | none => false
  | some r => (netOf f price q : Int) ≤ r

/-- Emin: the smaller of the minimum take times the packing unit, and the remaining stems (R1). -/
def emin (r : LotRec) : Nat := min (r.minTake * r.unit) r.remaining

/-- The largest value `base + j * u` with `j` at most `n` that fits, or `base` when none does (R125). -/
def largestFit (fits : Nat → Bool) (base u : Nat) : Nat → Nat
  | 0 => base
  | j + 1 => if fits (base + (j + 1) * u) then base + (j + 1) * u else largestFit fits base u j

/-- The first three steps of the quantity clamp chain (R108): the remaining stems, the packing unit, Emin. -/
def clampQuantity (g : Given) (r : LotRec) : Nat :=
  let q1 := match g with
    | .takeAll => r.remaining
    | .stems q => min q r.remaining
  let q2 := if r.remaining % r.unit ≠ 0 ∧ q1 = r.remaining then q1 else q1 / r.unit * r.unit
  max q2 (emin r)

/-- The final stems of a sale (R108, R125). -/
def finalStems (g : Given) (r : LotRec) (fits : Nat → Bool) : Nat :=
  let q := clampQuantity g r
  if fits q then q else largestFit fits (emin r) r.unit ((r.remaining - emin r) / r.unit)

/-- The cents invoiced from an open amount: nearest cent, half a cent away from zero (R126). -/
def invoiceCents (x : Int) : Int := if 0 ≤ x then (x + 5) / 10 else -((-x + 5) / 10)

end Sys2Proof.Machine
end

