-- ==== Sys2Proof/Machine/Accounts.lean ====
section
/-! DEFINITION. Machine/Accounts.lean: changes of an account's amounts with OVER judged, holds, bookings, invoice closes
and desk bindings (R121, R130, R131, R136 to R146). -/

namespace Sys2Proof.Machine

/-- Stores an account after a change and judges OVER in the same step (R121, R130, R131). `saturatedNow` says that the
change was saturated; `maySet` and `mayClear` are the columns of R130. A change that sets OVER gives SUP and FIN
ACCOUNT_OVER, whether the flag was clear or set. -/
def State.book (s : State) (b : Nat) (a : Account) (saturatedNow maySet mayClear : Bool) : State :=
  let mark := a.saturated || saturatedNow
  let above := decide (a.limit < exposureExact a)
  let setNow := saturatedNow || (maySet && above)
  let isOver := if setNow then true else if mayClear && !above && !mark then false else a.isOver
  let s1 := s.setAcct b { a with saturated := mark, isOver := isOver }
  if setNow then s1.raiseOver b else s1

/-- Places a hold: the held amount rises by the hold amount (R136). -/
def State.placeHold (s : State) (b hold : Nat) : State :=
  let a := s.acct b
  let x := a.heldAmt + hold
  s.book b { a with heldAmt := saturate x } (overflows x) false false

/-- The held amount less a hold; it does not go below 0 (R121, log entry 25). -/
def lessHold (a : Account) (hold : Nat) : Account := { a with heldAmt := max 0 (a.heldAmt - hold) }

/-- Releases a hold on replacement, abandonment or floor reset (R130, R136). -/
def State.releaseHold (s : State) (b hold : Nat) : State :=
  s.book b (lessHold (s.acct b) hold) false false true

/-- Counts a journal entry booked to the account (R137). -/
def countEntry (a : Account) (seq : Nat) : Account :=
  { a with
    entryCount := min (a.entryCount + 1) 4294967295
    firstSeq := match a.firstSeq with
      | none => some seq
      | some q => some q
    lastSeq := some seq }

/-- Books a purchase: the hold is released, then the net is added to the open amount (R110, R121). A DAMAGED account is
booked nothing (R137). -/
def State.bookPurchase (s : State) (b hold net seq : Nat) : State :=
  if (s.acct b).state = .damaged then s.releaseHold b hold
  else
    let a := lessHold (s.acct b) hold
    let x := a.openAmt + net
    s.book b (countEntry { a with openAmt := saturate x } seq) (overflows x) true true

/-- Books a void: the purchase's net is subtracted from the open amount (R113). A DAMAGED account is booked nothing
(R137), which leaves it as it is (log entry 43). -/
def State.bookVoid (s : State) (b net seq : Nat) : State :=
  if (s.acct b).state = .damaged then s
  else
    let a := s.acct b
    let x := a.openAmt - net
    s.book b (countEntry { a with openAmt := saturate x } seq) (overflows x) false true

/-- Closes the open invoice of an account (R127, R138, R139). -/
def State.closeInvoice (s : State) (b : Nat) : State :=
  let a := s.acct b
  let cents := invoiceCents a.openAmt
  let billed := a.billedAmt + 10 * cents
  let opened := a.openAmt - 10 * cents
  s.book b
    { a with
      billedAmt := saturate billed
      openAmt := saturate opened
      lastInvoice := some
        { cents := cents, count := a.entryCount, first := a.firstSeq, last := a.lastSeq, time := s.floorTime }
      entryCount := 0
      firstSeq := none
      lastSeq := none }
    (overflows billed || overflows opened) false false

/-- The account is ACTIVE or SUSPENDED (R129). -/
def Billable (a : Account) : Bool := a.state == .active || a.state == .suspended

/-- The mils applied by a payment of `cents` (R142): the smaller of the payment and the billed amount rounded down to a
whole cent. -/
def appliedMils (a : Account) (cents : Nat) : Int :=
  if 0 < a.billedAmt then min (10 * (cents : Int)) (10 * (a.billedAmt / 10)) else 0

/-! ## Bindings and winners (R143 to R146, R176) -/

/-- The mark of a desk on a clock (R176). -/
def State.winMark (s : State) (d c : Nat) : WinMark :=
  let k := s.clock c
  match k.winner with
  | none => .none
  | some w =>
    if w.desk = d then
      if k.state = .settling then .provisional else if k.state = .held then .held else .none
    else .none

/-- The desk is a provisional or held winner on some clock (R143). -/
def State.isWinner (s : State) (d : Nat) : Bool := clockNumbers.any fun c => s.winMark d c != .none

/-- Binds a desk to an account, on both sides in one step (R143). -/
def State.bind (s : State) (d b : Nat) : State :=
  (s.setDesk d { s.desk d with buyer := some b }).setAcct b { s.acct b with desk := some d }

/-- Unbinds a desk from its buyer, on both sides in one step (R143). -/
def State.unbind (s : State) (d b : Nat) : State :=
  (s.setDesk d { s.desk d with buyer := none }).setAcct b { s.acct b with desk := none }

/-- The account that is not VACANT and holds a badge (R133, R144): of several, the one of the lowest number (log entry
44). -/
def State.findBadge (s : State) (badge : Nat) : Option Nat :=
  (s.accounts.find? fun c => c.2.acct.state != .vacant && c.2.acct.badge == some badge).map (·.1)

/-- The bytes of a last invoice, or of its absence (R139, R196). -/
def invoiceBytes : Option Invoice → List Byte
  | none => optAmount none ++ optF4 none ++ opt04 none ++ opt04 none ++ optF4 none
  | some i => s6 i.cents ++ u4 i.count ++ opt04 i.first ++ opt04 i.last ++ u4 i.time

/-- The fields of an account in the order of R128, then its exposure and headroom (R134, R135; log entry 9). -/
def accountFieldBytes (a : Account) : List Byte :=
  u1 a.state.code ++ onByte a.isOver ++ onByte a.saturated ++ opt03 a.badge ++ s6 a.limit ++ s6 a.openAmt ++
  s6 a.billedAmt ++ s6 a.heldAmt ++ u1 a.feeClass ++ optF1 a.bay ++ opt0 2 a.desk ++ u4 a.entryCount ++
  opt04 a.firstSeq ++ opt04 a.lastSeq ++ invoiceBytes a.lastInvoice ++ s6 (exposure a) ++ s6 (headroom a)

end Sys2Proof.Machine
end

