-- ==== Sys2Proof/Machine/Lots.lean ====
section
/-! DEFINITION. Machine/Lots.lean: the changes of a lot record that the blocks ask for, and the closure report to the
yard (R2, R5 to R9, R42). -/

namespace Sys2Proof.Machine

/-- The lot is in state `q` after the change. -/
def State.setLotState (s : State) (k : Nat) (q : LotState) : State := s.updLot k fun r => { r with state := q }

/-- The lot moves from its train into clock `c`'s queue (R2, R48). -/
def State.lotJoins (s : State) (k c : Nat) : State :=
  s.updLot k fun r => { r with state := .queued, clock := some c }

/-- How a lot is closed without a sale (R7). -/
inductive CloseWay where
  | runout | crowded | skip | withdraw
deriving DecidableEq, Repr

/-- The closed state that R7 chooses. -/
def closedState (w : CloseWay) (r : LotRec) : LotState :=
  if r.purchases.isEmpty then
    match w with
    | .runout | .crowded => .unsold
    | .skip | .withdraw => .withdrawn
  else .partSold

/-- Every lot of the train is closed (R42). -/
def State.allClosed (s : State) (t : Nat) : Bool := (s.train t).lots.all s.lotClosed

/-- The train becomes CLEARED, YRD is given TRAIN_CLEARED, and the clock has no presenting train (R42, R48). -/
def State.clearTrain (s : State) (t : Nat) : State :=
  let r := s.train t
  let s1 := (s.setTrain t { r with state := .cleared }).raise .yrd .trainCleared (.number t)
  match r.clock with
  | none => s1
  | some c => if (s1.presOf c).train = some t then s1.setPres c { s1.presOf c with train := none } else s1

/-- The closure of a lot is reported: a PRESENTING train whose lots are all closed becomes CLEARED (R8, R42). -/
def State.reportClosure (s : State) (train : Option Nat) : State :=
  match train with
  | none => s
  | some t => if (s.train t).state = .presenting ∧ s.allClosed t then s.clearTrain t else s

/-- Closes a lot without a sale and reports the closure (R7, R8). -/
def State.closeLot (s : State) (k : Nat) (w : CloseWay) : State :=
  match s.lot k with
  | none => s
  | some r =>
    (s.setLot k (some { r with state := closedState w r, clock := none })).reportClosure r.train

/-- The state a lot takes when a purchase has been appended (R5). -/
def soldState (r : LotRec) : LotState :=
  if r.remaining = 0 then .soldOut
  else if Config.splitLimit ≤ r.purchases.length then .partSold
  else .onClock

/-- A purchase commit in the lot table: the entry is appended, the remaining stems fall, the last journal sequence is
set, and the lot closes or stays ON_CLOCK (R5, R13). -/
def commitPurchase (r : LotRec) (p : Purchase) : LotRec :=
  let r1 := { r with purchases := r.purchases ++ [p], remaining := r.remaining - p.stems, lastSeq := some p.seq }
  let q := soldState r1
  { r1 with state := q, clock := if q = .onClock then r1.clock else none }

/-- A purchase removal in the lot table: the newest entry `p` leaves the list and its stems return; the lot is ON_CLOCK
on clock `c` (R6). -/
def removePurchase (r : LotRec) (p : Purchase) (c seq : Nat) : LotRec :=
  { r with
    state := .onClock, clock := some c, remaining := r.remaining + p.stems, purchases := r.purchases.dropLast,
    lastSeq := some seq }

/-- Counts a run-out and answers whether a re-offer is allowed (R9). -/
def countRunout (r : LotRec) : LotRec × Bool :=
  ({ r with runouts := r.runouts + 1 }, r.runouts + 1 ≤ r.reofferLimit)

/-- The reply to a closure names the closed state (R11, R82). -/
def State.closedReply (s : State) (k : Nat) : List Byte := u1 (lotStateCode (s.lot k))

/-- A purchase entry in 20 bytes, in the field order of R4 (R196). -/
def purchaseBytes (p : Purchase) : List Byte :=
  u2 p.buyer ++ u2 p.desk ++ u2 p.stems ++ u3 p.price ++ u1 p.position ++ u6 p.net ++ u4 p.seq

/-- Page 0 of a lot record (R14, R196). A FREE slot gives its state alone. Of a run-out count above 255 its byte holds
the low 8 bits (log entry 61). -/
def lotPage0 (c : LotCell) : List Byte :=
  match c.lot with
  | none => u1 0
  | some r =>
    u1 r.state.code ++ u4 r.catalogue ++ u2 r.total ++ u2 r.remaining ++ u2 r.unit ++ u1 r.minTake ++
    u3 r.reserve ++ opt03 r.startPrice ++ u1 r.reofferLimit ++ u1 r.runouts ++ optF1 r.train ++ optF1 r.clock ++
    opt04 r.lastSeq ++ u2 c.checkField.toNat ++ u2 (emin r) ++ u1 r.purchases.length

/-- A page of the purchase list: its count byte and its entries (R196). A FREE slot has no list, and gives no fields
(log entry 9). -/
def purchasePage (c : LotCell) (first : Nat) : List Byte :=
  match c.lot with
  | none => []
  | some r => listBytes (((r.purchases.drop first).take 8).map purchaseBytes)

/-- A page of a lot record (R196): page 1 holds purchases 1 to 8 and page 2 purchases 9 to 16; a page beyond the last
has no fields. -/
def lotPage (c : LotCell) (page : Nat) : List Byte :=
  match page with
  | 0 => lotPage0 c
  | 1 => purchasePage c 0
  | 2 => purchasePage c 8
  | _ => []

end Sys2Proof.Machine
end

