-- ==== Sys2Proof/Machine/Yard.lean ====
section
/-! DEFINITION. Machine/Yard.lean: filling a queue from its presenting train, launches, edges, completion and the end of
a move (R19, R22, R23, R29 to R42, R48). -/

namespace Sys2Proof.Machine

/-! ## Filling a presentation queue (R41, R48) -/

/-- The train's first lot in train order that is still ON_TRAIN (R41). -/
def State.firstOnTrain (s : State) (t : Nat) : Option Nat := (s.train t).lots.find? fun k => s.lotIs k .onTrain

/-- Appends the presenting train's next ON_TRAIN lot while the queue holds fewer than 8 entries; at most `n` lots. -/
def State.fillUpTo : Nat → Nat → State → State
  | 0, _, s => s
  | n + 1, c, s =>
    let r := s.presOf c
    match r.train with
    | none => s
    | some t =>
      if r.queue.length < Config.queueSize then
        match s.firstOnTrain t with
        | none => s
        | some k =>
          let s1 := s.lotJoins k c
          State.fillUpTo n c (s1.setPres c { r with queue := r.queue ++ [{ lot := k, origin := .train, announce := none }] })
      else s

/-- The fill of R48. -/
def State.fill (s : State) (c : Nat) : State := State.fillUpTo Config.queueSize c s

/-- The yard controller names a train as clock `c`'s presenting train, and the queue is filled from it (R41, R48). -/
def State.nameTrain (s : State) (c t : Nat) : State :=
  (s.setPres c { s.presOf c with train := some t }).fill c

/-! ## Segments -/

/-- The filtered level is the one that a leave edge reaches (R18). -/
def Segment.vacant (g : Segment) : Bool :=
  match g.layout with
  | none => true
  | some l => g.level != l.rising

/-- The segment shows occupied (R18). -/
def Segment.showsOccupied (g : Segment) : Bool := !g.vacant

/-- The power group of a segment; 0 for one that is not defined, which no route holds. -/
def Segment.group (g : Segment) : Nat :=
  match g.layout with
  | none => 0
  | some l => l.group

/-- The successor list of a segment; empty when it is not defined (R21). -/
def Segment.succ (g : Segment) : List Nat :=
  match g.layout with
  | none => []
  | some l => l.succ

/-- Every segment of the route is in the successor list of the one before it (R27). -/
def State.follows (s : State) : List Nat → Bool
  | g :: h :: t => (s.seg g).succ.contains h && State.follows s (h :: t)
  | _ => true

/-! ## Launch (R29 to R31) -/

/-- The route of a train's current move. -/
def State.route (s : State) (t : Nat) : List Nat :=
  match (s.train t).move with
  | none => []
  | some m => m.route

/-- A queued move is eligible (R29). -/
def State.eligible (s : State) (t : Nat) : Bool :=
  match s.route t with
  | [] => false
  | g :: rest =>
    rest.all (fun h => (s.seg h).state == .free) &&
    (match (s.seg g).state with | .fault _ => false | .free | .reserved _ | .occupied _ => true) &&
    (s.window (s.seg g).group).length < Config.windowSize && s.supplyOk

/-- Launches a queued move, as one change (R30). -/
def State.launch (s : State) (t : Nat) : State :=
  let route := s.route t
  let group := (s.seg (route.headD 0)).group
  let s1 := State.each (fun g q => q.setSegState g (.reserved t)) route.tail s
  let s2 := s1.setWindow group (s1.window group ++ [{ time := s.floorTime, age := 0 }])
  let s3 := s2.setMoves (s2.yard.moves.filter (· ≠ t))
  let r := s3.train t
  let s4 := s3.setTrain t
    { r with
      state := .moving, prior := none, clock := none, timer := some (s.yard.transitTimeout * 1000)
      move := r.move.map fun m => { m with next := 1 } }
  s4.raise .yrd .moveLaunched (.number t)

/-- Launches the first eligible move, oldest first, and begins the walk again, at most `n` times (R29). -/
def State.launchUpTo : Nat → State → State
  | 0, s => s
  | n + 1, s =>
    match s.yard.moves.find? s.eligible with
    | none => s
    | some t => State.launchUpTo n (s.launch t)

/-- Launch eligibility is re-examined (R29). -/
def State.reexamine (s : State) : State := State.launchUpTo s.yard.moves.length s

/-! ## Motion (R32 to R36) -/

/-- A MOVING or STALLED train stalls with a cause, its timer stops, and YRD is given MOVE_STALLED (R33, R34, R37). -/
def State.stall (s : State) (t : Nat) (cause : StallCause) : State :=
  let r := s.train t
  if r.state = .moving ∨ r.state = .stalled then
    (s.setTrain t { r with state := .stalled, cause := some cause, timer := none }).raise .yrd .moveStalled (.number t)
  else s

/-- The state of a train whose move completes on a segment of this kind, with its presenting clock (R36). -/
def arrivalState : SegKind → TrainState × Option Nat
  | .present c => (.presenting, some c)
  | .bay _ => (.atBay, none)
  | .return => (.atBay, none)
  | .store => (.stored, none)
  | .stage => (.stored, none)
  | .track => (.stored, none)

/-- The kind of a segment; an undefined one, which no route holds, counts as TRACK. -/
def Segment.kindOf (g : Segment) : SegKind :=
  match g.layout with
  | none => .track
  | some l => l.kind

/-- The move of train `t` completes on segment `g`: the new state, MOVE_DONE, and presenting or clearing (R36, R41). -/
def State.complete (s : State) (t g : Nat) : State :=
  let (q, c) := arrivalState (s.seg g).kindOf
  let r := s.train t
  let s1 := (s.setTrain t { r with state := q, clock := c, move := none, cause := none, timer := none }).raise
    .yrd .moveDone (.number t)
  match c with
  | none => s1
  | some k => if s1.allClosed t then s1.clearTrain t else s1.nameTrain k t

/-- Completion is judged: the last route segment is occupied and the occupied set holds it alone (R36). -/
def State.judgeComplete (s : State) (t : Nat) : State :=
  let r := s.train t
  match (s.route t).getLast? with
  | none => s
  | some g =>
    if r.state = .moving ∧ r.occupied = [g] ∧ (s.seg g).state = .occupied t then s.complete t g else s

/-- A segment behind the head of `t` is released: FREE, out of the occupied set, eligibility re-examined, completion
judged (R35). -/
def State.releaseBehind (s : State) (t g : Nat) : State :=
  let s1 := s.setSegState g .free
  let r := s1.train t
  let s2 := (s1.setTrain t { r with occupied := r.occupied.filter (· ≠ g) }).reexamine
  s2.judgeComplete t

/-- Segment `g`, the next of train `t`, becomes OCCUPIED by it and its head (R32). -/
def State.enter (s : State) (t g : Nat) : State :=
  let s1 := s.setSegState g (.occupied t)
  let r := s1.train t
  s1.setTrain t
    { r with
      occupied := r.occupied ++ [g], head := some g
      move := r.move.map fun m => { m with next := m.next + 1 } }

/-- An accepted entry: the train enters `g`, is MOVING with its timer restarted, segments behind that read vacant are
released one by one in the order of their entry (log entry 37), and completion is judged (R32, R35, R36). -/
def State.acceptEntry (s : State) (t g : Nat) : State :=
  let s1 := s.enter t g
  let r := s1.train t
  let s2 := s1.setTrain t
    { r with state := .moving, cause := none, timer := some (s.yard.transitTimeout * 1000) }
  let behind := r.occupied.filter fun h => h ≠ g && (s2.seg h).vacant
  (State.each (fun h q => q.releaseBehind t h) behind s2).judgeComplete t

/-- INTRUSION to SUP and YRD with the segment (R33). -/
def State.raiseIntrusion (s : State) (g : Nat) : State :=
  (s.raise .sup .intrusion (.number g)).raise .yrd .intrusion (.number g)

/-- An entry edge on segment `g` (R32 to R34). -/
def State.entryEdge (s : State) (g : Nat) : State :=
  match (s.seg g).state with
  | .free => (s.setSegState g (.fault none)).raiseIntrusion g
  | .occupied _ => s
  | .fault _ => s
  | .reserved t =>
    let r := s.train t
    let next := match r.move with
      | none => 0
      | some m => m.next
    if (s.route t)[next]? = some g then
      if r.state = .moving ∨ r.state = .stalled ∧ r.cause = some .transit then s.acceptEntry t g
      else s.enter t g
    else if (s.route t)[next + 1]? = some g then s.stall t .order
    else ((s.setSegState g (.fault (some t))).raiseIntrusion g).stall t .intrusion

/-- A leave edge on segment `g` (R35). -/
def State.leaveEdge (s : State) (g : Nat) : State :=
  match (s.seg g).state with
  | .occupied t => if (s.train t).head = some g then s else s.releaseBehind t g
  | .free => s
  | .reserved _ => s
  | .fault _ => s

/-- The filtered level of a defined segment takes the sensed level, and one edge is taken (R22, R23). -/
def State.takeEdge (s : State) (g : Nat) (l : SegLayout) : State :=
  let level := s.sensed g
  let s1 := s.setSeg g { s.seg g with level := level, timing := none }
  if level = l.rising then s1.entryEdge g else s1.leaveEdge g

/-! ## The end of a move that is under way (R39, R46) -/

/-- The unentered segments that a cancel takes into the train: every segment RESERVED by it from its next segment up to
the last one in route order that is RESERVED by it and shows occupied (R39). -/
def State.takenIn (s : State) (t : Nat) : List Nat :=
  let mine := fun g => (s.seg g).state == .reserved t
  let rest := match (s.train t).move with
    | none => []
    | some m => m.route.drop m.next
  let upTo := (rest.reverse.dropWhile fun g => !(mine g && (s.seg g).showsOccupied)).reverse
  upTo.filter mine

/-- What a cancel of train `t` makes of a segment: taken in, freed, or left in FAULT without its reservation (R39). -/
def cancelSegment (t : Nat) (taken : List Nat) (g : Nat) (x : Segment) : Segment :=
  match x.state with
  | .reserved u => if u = t then { x with state := if taken.contains g then .occupied t else .free } else x
  | .fault (some u) => if u = t then { x with state := .fault none } else x
  | .fault none => x
  | .free => x
  | .occupied _ => x

/-- A train under way is halted where it stands and becomes STOPPED (R39, R46). -/
def State.haltTrain (s : State) (t : Nat) : State :=
  let taken := s.takenIn t
  let s1 := { s with yard := { s.yard with
    segs := Tab.mapAll Segment.undefined (cancelSegment t taken) s.yard.segs } }
  let r := s1.train t
  s1.setTrain t
    { r with
      state := .stopped, occupied := r.occupied ++ taken, move := none, cause := none, timer := none
      head := match taken.getLast? with
        | none => r.head
        | some g => some g }

/-- The state that a prior state names (R24). -/
def PriorState.state : PriorState → TrainState
  | .stored => .stored
  | .stopped => .stopped
  | .cleared => .cleared
  | .atBay => .atBay

/-- The state that a train returns to when its queued move ends (R39). A QUEUED train holds a prior state (R27). -/
def Train.returnState (r : Train) : TrainState :=
  match r.prior with
  | none => .stopped
  | some q => q.state

/-- A queued move leaves the queue and its train returns to its prior state (R21, R39, R46). -/
def State.unqueue (s : State) (t : Nat) : State :=
  let r := s.train t
  let s1 := s.setMoves (s.yard.moves.filter (· ≠ t))
  s1.setTrain t { r with state := r.returnState, move := none, prior := none }

end Sys2Proof.Machine
end

