-- ==== Sys2Proof/Machine/DeskLine.lean ====
section
/-! DEFINITION. Machine/DeskLine.lean: placing a frame in the outbound queue, displacing an ANNOUNCE, the wait list, and
replies to desks (R51, R171 to R173, R175, R177). -/

namespace Sys2Proof.Machine

/-- The head of the queue is on the line (R171, R172). -/
def State.headOnLine (s : State) : Bool :=
  match s.line.sending with
  | none => false
  | some x => !x.orphan

/-- Puts a REPLY behind the replies and ahead of every broadcast (R171). -/
def insertReply (p : OutPlace) : List OutPlace → List OutPlace
  | [] => [p]
  | h :: t => if h.frame.isReply then h :: insertReply p t else p :: h :: t

/-- A frame joins the outbound queue (R171). A head that has been sent and waits for its resend stays at the head (R174,
R175). -/
def joinQueue (f : OutFrame) (q : List OutPlace) : List OutPlace :=
  let p : OutPlace := { frame := f, sent := 0 }
  if f.isReply then
    match q with
    | [] => [p]
    | h :: t => if h.sent = 0 then insertReply p (h :: t) else h :: insertReply p t
  else q ++ [p]

/-- The oldest ANNOUNCE of a queue, with its clock and lot, and the queue without it (R172). -/
def dropAnnounce : List OutPlace → Option (Nat × Nat × List OutPlace)
  | [] => none
  | h :: t =>
    match h.frame with
    | .announce c _ k _ _ _ _ _ _ _ => some (c, k, t)
    | .run _ _ _ _ _ _ _ _ | .halt _ _ _ _ _ | .sale _ _ _ _ _ _ _ _ _ _ | .reply _ _ _ _ _ =>
      (dropAnnounce t).map fun (c, k, q) => (c, k, h :: q)

/-- The oldest queued ANNOUNCE that is not on the line (R172). -/
def displaceFrom (headOnLine : Bool) (q : List OutPlace) : Option (Nat × Nat × List OutPlace) :=
  match headOnLine, q with
  | true, h :: t => (dropAnnounce t).map fun (c, k, r) => (c, k, h :: r)
  | _, _ => dropAnnounce q

/-- The frame may displace an ANNOUNCE: a HALT, a SALE or a REPLY (R172). -/
def OutFrame.displaces : OutFrame → Bool
  | .halt _ _ _ _ _ | .sale _ _ _ _ _ _ _ _ _ _ | .reply _ _ _ _ _ => true
  | .run _ _ _ _ _ _ _ _ | .announce _ _ _ _ _ _ _ _ _ _ => false

/-- The announce record of lot `k` in a queue becomes absent (R51). -/
def unannounce (k : Nat) (q : List QEntry) : List QEntry :=
  q.map fun e => if e.lot = k then { e with announce := none } else e

/-- What the presentation unit makes of a displaced ANNOUNCE, by where its lot stands (R51). -/
def State.displaced (s : State) (c k : Nat) : State :=
  match s.lot k with
  | none => s
  | some r =>
    let p := s.presOf c
    if r.state = .announced ∧ r.clock = some c then s.setPres c { p with queue := unannounce k p.queue }
    else if r.state = .onClock ∧ r.clock = some c ∧ p.unrun = true ∧ (s.clock c).lot = some k then
      s.setPres c { p with current := none }
    else s

/-- A HALT, SALE or REPLY takes the place of a displaced ANNOUNCE, if one can be displaced (R172). -/
def State.displaceFor (s : State) (f : OutFrame) : Option State :=
  if f.displaces then
    match displaceFrom s.headOnLine s.line.outbound with
    | none => none
    | some (c, k, q1) => some ((s.setOutbound (joinQueue f q1)).displaced c k)
  else none

/-- A block offers a frame: it is placed in a free place, placed by displacing an ANNOUNCE, or not placed (R172). -/
def State.offer (s : State) (f : OutFrame) : Option State :=
  if s.line.outbound.length < Config.outboundSize then
    some (s.setOutbound (joinQueue f s.line.outbound))
  else s.displaceFor f

/-- A REPLY is offered; one that finds no place is dropped (R172). While a producer waits every place is held for it,
so the reply is placed by displacing an ANNOUNCE or not at all (R173). -/
def State.offerReply (s : State) (desk : Nat) (code : DeskCode) (clock : Option Nat) (tag : Nat)
    (detail : ReplyDetail) : State :=
  let f := OutFrame.reply desk code clock tag detail
  if s.line.waits.isEmpty then (s.offer f).getD s else (s.displaceFor f).getD s

/-- A producer joins the wait list behind the others; one that waits already keeps its order (R173). -/
def State.joinWait (s : State) (who : Producer) (kind : WaitKind) : State :=
  let w := s.line.waits
  if w.any (·.who == who) then
    s.setWaits (w.map fun e => if e.who = who then { e with kind := kind } else e)
  else s.setWaits (w ++ [{ who := who, kind := kind }])

/-- A producer leaves the wait list (R173). -/
def State.leaveWait (s : State) (who : Producer) : State := s.setWaits (s.line.waits.filter (·.who ≠ who))

/-- The presentation unit waits for a place (R50, R173). -/
def State.presentationWaits (s : State) : Bool := s.line.waits.any (·.who == .presentation)

/-- The entry whose turn it is: producers of HALT and SALE, oldest first, then producers of RUN and ANNOUNCE (R173). -/
def nextWaiter (w : List WaitEntry) : Option WaitEntry :=
  match w.find? fun e => e.kind == .halt || e.kind == .sale with
  | some e => some e
  | none => w.head?

/-- The bytes of a reply frame's price: P(k) = S - k × D (R70). -/
def priceAt (k : Clock) (position : Nat) : Nat := k.startPrice.getD 0 - position * k.set.step

/-- The price P(k), or its absence while the clock has no start price (R70, R89). -/
def priceOpt (k : Clock) (position : Nat) : Option Nat := k.startPrice.map fun x => x - position * k.set.step

end Sys2Proof.Machine
end

