-- ==== Sys2Proof/Machine/Begin.lean ====
section
/-! DEFINITION. Machine/Begin.lean: prices, beginning a run, pending starts, and letting go of a lot (R53 to R57, R68 to
R73). -/

namespace Sys2Proof.Machine

/-- The start price S from a candidate and the reserve: the candidate clamped into M to 99,999 (R69). -/
def startPriceOf (candidate reserve : Nat) : Nat := clamp reserve 99999 candidate

/-- S and M of the run that clock `k` begins on lot `r` (R69). -/
def lotPrices (k : Clock) (r : LotRec) : Nat × Nat :=
  let candidate := match r.startPrice with
    | none => r.reserve + k.set.span * k.set.step
    | some x => x
  (startPriceOf candidate r.reserve, r.reserve)

/-- S and M of a begin: the lot's, or the rehearsal settings' (R69). -/
def State.pricesFor (s : State) (k : Clock) (kind : BeginKind) : Nat × Nat :=
  if kind = .rehearsal then (startPriceOf k.set.rehearsalStart k.set.rehearsalReserve, k.set.rehearsalReserve)
  else
    match k.lot.bind s.lot with
    | none => (0, 0)
    | some r => lotPrices k r

/-- The start position of a begin (R71). -/
def startPosition (k : Clock) : BeginKind → Nat
  | .startCommand => 0
  | .startPending => 0
  | .rehearsal => 0
  | .restart => k.nextStart.getD 0
  | .resume => k.nextStart.getD 0

/-- The run tag after `t` (R71). -/
def tagNext (t : Nat) : Nat := (t + 1) % 256

/-- What becomes of a begin (R71 to R73). -/
inductive BeginOutcome where
  | taken | waiting | noSupply | noJournal
deriving DecidableEq, Repr

/-- Step 5 of a begin: the RUN frame is placed, and the begin is taken whole (R71). -/
def State.takeBegin (s : State) (c : Nat) (kind : BeginKind) (price reserve start : Nat) : State :=
  let s1 := if kind = .rehearsal then s else s.takeReservation c
  let k := s1.clock c
  let s2 := s1.setClock c
    { k with
      state := .running, tag := tagNext k.tag, position := some start, startPrice := some price,
      reserve := some reserve, nextStart := none, cause := none, waitBegin := none,
      timer := some k.set.interval
      rehearsalRun := kind == .rehearsal
      lastSold := if kind = .rehearsal then k.lastSold else if k.lastSold = k.lot then k.lastSold else none }
  s2.setPres c { s2.presOf c with pending := none, ready := none, unrun := false }

/-- A begin on clock `c` (R71): the supply check, the journal check, the prices, the RUN frame, and the run. A begin
whose frame finds no place waits with no reservation (R73). -/
def State.beginRun (s : State) (c : Nat) (kind : BeginKind) : BeginOutcome × State :=
  let k := s.clock c
  if !s.supplyOk then (.noSupply, s)
  else if kind ≠ .rehearsal ∧ k.reserved = false ∧ s.journalIsFull = true then (.noJournal, s)
  else
    let (price, reserve) := s.pricesFor k kind
    let start := startPosition k kind
    let frame := OutFrame.run c (tagNext k.tag) price k.set.step k.set.interval start reserve (kind == .rehearsal)
    match s.offer frame with
    | some s1 => (.taken, s1.takeBegin c kind price reserve start)
    | none =>
      let s1 := s.setClock c { k with waitBegin := some { kind := kind, start := start } }
      let s2 := s1.setPres c { s1.presOf c with pending := none }
      (.waiting, s2.joinWait (.clock c) .run)

/-- A waiting begin is dropped: the clock leaves the wait list (R73). -/
def State.dropBegin (s : State) (c : Nat) : State :=
  let k := s.clock c
  match k.waitBegin with
  | none => s
  | some _ => (s.setClock c { k with waitBegin := none }).leaveWait (.clock c)

/-- CLOCK_PAUSED to AUC (R55, R72, R79, R81, R100). -/
def State.raisePaused (s : State) (c : Nat) : State := s.raise .auc .clockPaused (.number c)

/-- The clock becomes PAUSED with a cause; its next-run start position is `start` (R72, R78, R79, R81). -/
def State.pauseAt (s : State) (c start : Nat) (cause : PauseCause) : State :=
  let k := s.clock c
  s.setClock c
    { k with
      state := .paused, cause := some cause, nextStart := some start, pausePending := false, timer := none,
      waitHalt := none }

/-- A restart that fails its check leaves the clock PAUSED (R72). -/
def State.restartFailed (s : State) (c : Nat) (cause : PauseCause) : State :=
  (s.pauseAt c ((s.clock c).nextStart.getD 0) cause).raisePaused c

/-- The begin of a pending start that has come due: a failed check drops it and gives AUC CLOCK_PAUSED (R55, R72). -/
def State.beginPending (s : State) (c : Nat) : State :=
  let (o, s1) := s.beginRun c .startPending
  match o with
  | .taken => s1
  | .waiting => s1
  | .noSupply => (s1.setPres c { s1.presOf c with pending := none }).raisePaused c
  | .noJournal => (s1.setPres c { s1.presOf c with pending := none }).raisePaused c

/-- The lead of the loaded lot is met (R53). -/
def State.leadMet (s : State) (c : Nat) : Bool :=
  match (s.presOf c).current with
  | none => false
  | some a => (s.clock c).set.lead ≤ a.age

/-- The inter-lot pause has passed: the let-go age has reached it, or is absent (R57). -/
def State.pausePassed (s : State) (c : Nat) : Bool :=
  match (s.presOf c).letGo with
  | none => true
  | some n => (s.clock c).set.pause ≤ n

/-- The clock's pending start has come due (R54, R57). An AUTO start that is held comes due with auto-advance or
auto-start turned off since, too (log entry 63). -/
def State.startDue (s : State) (c : Nat) : Bool :=
  (s.clock c).state == .loaded &&
  match (s.presOf c).pending with
  | none => false
  | some .manual => s.leadMet c
  | some .auto => s.leadMet c && s.pausePassed c

/-- A pending start that has come due begins its run (R55). -/
def State.judgeStart (s : State) (c : Nat) : State := if s.startDue c then s.beginPending c else s

/-- The position that the clock last stood at: c, or, once c is absent, the c of the last let-go (R65). -/
def Clock.lastStood (k : Clock) : Option Nat :=
  match k.position with
  | none => k.stood
  | some p => some p

/-- The clock lets go of its lot and becomes IDLE (R68); the let-go age starts when the lot was closed or re-offered
(R57). -/
def State.letGo (s : State) (c : Nat) : State :=
  let k := s.clock c
  let s1 := s.setClock c
    { k with
      state := .idle, lot := none, startPrice := none, reserve := none, position := none, stood := k.lastStood,
      nextStart := none, winner := none, waitHalt := none, timer := none }
  s1.setPres c { s1.presOf c with current := none, unrun := false, pending := none, letGo := some 0 }

end Sys2Proof.Machine
end

