-- ==== Sys2Proof/Machine/Present.lean ====
section
/-! DEFINITION. Machine/Present.lean: announcing due lots by rotation, loading a clock, auto-advance, auto-start and
LOT_READY, re-offers and give-backs (R47 to R60). -/

namespace Sys2Proof.Machine

/-! ## Announcing (R49 to R51) -/

/-- The due entry nearest the head of a queue, by position counted from 1 (R49). -/
def dueEntry : Nat → Nat → List QEntry → Option (Nat × Nat)
  | 0, _, _ => none
  | _ + 1, _, [] => none
  | n + 1, i, e :: t => if e.announce.isNone then some (i, e.lot) else dueEntry n (i + 1) t

/-- The lot that clock `c` has to announce, with its queue position: the current lot with no run begun since its load,
when its announce record is absent, at position 0 (R51), or the due queued lot nearest the head (R49). -/
def State.dueOf (s : State) (c : Nat) : Option (Nat × Nat) :=
  let k := s.clock c
  let p := s.presOf c
  match k.lot with
  | some l =>
    if p.unrun = true ∧ p.current = none then some (0, l) else dueEntry k.set.depth 1 p.queue
  | none => dueEntry k.set.depth 1 p.queue

/-- The ANNOUNCE frame of a lot, from its record as it stands (03 section 3.3). -/
def State.announceFrame (s : State) (c position k : Nat) : OutFrame :=
  match s.lot k with
  | none => .announce c position k 0 0 0 0 0 none 0
  | some r =>
    .announce c position k r.catalogue r.remaining r.unit (r.minTake * r.unit) r.reserve r.startPrice r.runouts

/-- The lot's announce record starts: the floor time of the placement, and an age of 0 (R49). -/
def announced (time k : Nat) (q : List QEntry) : List QEntry :=
  q.map fun e => if e.lot = k then { e with announce := some { time := time, age := 0 } } else e

/-- What the placement of an ANNOUNCE changes: the announce record, the lot's state, and the rotation point (R49 to
R51). The current lot's placement may make a pending start come due (R55). -/
def State.placedAnnounce (s : State) (c position k : Nat) : State :=
  let s1 := { s with rotation := (c + 1) % Config.clocks }
  let p := s1.presOf c
  if position = 0 then (s1.setPres c { p with current := some { time := s.floorTime, age := 0 } }).judgeStart c
  else (s1.setLotState k .announced).setPres c { p with queue := announced s.floorTime k p.queue }

/-- The clock numbers in the order of the rotation (R50). -/
def State.rotated (s : State) : List Nat := clockNumbers.map fun i => (s.rotation + i) % Config.clocks

/-- What comes of one announcement. -/
inductive AnnounceOutcome where
  | nothingDue | placed | refused
deriving DecidableEq, Repr

/-- Offers one ANNOUNCE, chosen by rotation (R50). -/
def State.announceStep (s : State) : AnnounceOutcome × State :=
  match s.rotated.find? fun c => (s.dueOf c).isSome with
  | none => (.nothingDue, s)
  | some c =>
    match s.dueOf c with
    | none => (.nothingDue, s)
    | some (position, k) =>
      match s.offer (s.announceFrame c position k) with
      | none => (.refused, s)
      | some s1 => (.placed, s1.placedAnnounce c position k)

/-- Announces due lots one at a time, at most `n`, until none is due or one is refused; then the presentation unit
waits (R50). -/
def State.announceUpTo : Nat → State → State
  | 0, s => s
  | n + 1, s =>
    let (o, s1) := s.announceStep
    match o with
    | .nothingDue => s
    | .placed => State.announceUpTo n s1
    | .refused => s.joinWait .presentation .announce

/-- The presentation unit announces what is due, unless it already waits for a place (R50). -/
def State.announceAll (s : State) : State :=
  if s.presentationWaits then s else State.announceUpTo (Config.outboundSize + 1) s

/-! ## Loading (R52, R57, R58) -/

/-- The head lot of the clock's queue becomes its current lot (R52). -/
def State.load (s : State) (c : Nat) : State :=
  let p := s.presOf c
  match p.queue with
  | [] => s
  | e :: rest =>
    let s1 := (s.setPres c { p with queue := rest, current := e.announce, unrun := true, ready := none }).setLotState
      e.lot .onClock
    (s1.setClock c { s1.clock c with state := .loaded, lot := some e.lot }).fill c

/-- The head of a clock's queue, when it is ANNOUNCED. -/
def State.announcedHead (s : State) (c : Nat) : Option Nat :=
  match (s.presOf c).queue with
  | [] => none
  | e :: _ => if s.lotIs e.lot .announced then some e.lot else none

/-- The load of auto-advance, and the AUTO pending start of auto-start; `quiet` names a clock whose load holds none
(R57, R58, R79). -/
def State.autoLoad (s : State) (quiet : Option Nat) (c : Nat) : State :=
  let s1 := s.load c
  if (s1.clock c).set.autoStart = true ∧ quiet ≠ some c then
    (s1.setPres c { s1.presOf c with pending := some .auto }).judgeStart c
  else s1

/-- The condition of R58 is judged for clock `c`: a load, or LOT_READY when it has not been given yet for this head
(log entry 15). -/
def State.advanceClock (s : State) (quiet : Option Nat) (c : Nat) : State :=
  let k := s.clock c
  let p := s.presOf c
  match if k.state = .idle then s.announcedHead c else none with
  | none => s.setPres c { p with ready := none }
  | some l =>
    if k.set.autoAdvance = true ∧ k.rehearsal = false then s.autoLoad quiet c
    else if p.ready = some l then s
    else (s.setPres c { p with ready := some l }).raise .auc .lotReady (.number c)

/-- The condition of R58 is judged for every clock. -/
def State.judgeClocks (s : State) (quiet : Option Nat) : State :=
  State.each (fun c q => q.advanceClock quiet c) clockNumbers s

/-- One pass: what is due is announced, then each clock's condition is judged (log entry 13). -/
def State.settlePass (s : State) (quiet : Option Nat) : State := s.announceAll.judgeClocks quiet

/-- The presentation unit acts at the end of a step that moved lots, queues or clocks (R48 to R58). The second pass
announces and judges what the first pass's loads brought forward. -/
def State.settleQuiet (s : State) (quiet : Option Nat) : State := (s.settlePass quiet).settlePass quiet

def State.settle (s : State) : State := s.settleQuiet none

/-! ## Re-offer, give-back, withdrawal from a queue (R11, R59, R60) -/

/-- An entry joins the tail or the head of a queue, with no announce record (R59, R60). -/
def joinTail (k : Nat) (p : Pres) : Pres := { p with queue := p.queue ++ [{ lot := k, origin := .reOffer, announce := none }] }
def joinHead (k : Nat) (p : Pres) : Pres := { p with queue := { lot := k, origin := .givenBack, announce := none } :: p.queue }

/-- A re-offer: the lot joins the tail of the clock's queue, or is crowded out and closed (R59). -/
def State.reOffer (s : State) (c k : Nat) : State :=
  let p := s.presOf c
  if p.queue.length < Config.queueSize then (s.setLotState k .queued).setPres c (joinTail k p)
  else (s.closeLot k .crowded).fill c

/-- The loaded lot is given back to the head of the clock's queue (R60). -/
def State.giveBack (s : State) (c k : Nat) : State :=
  let p := s.presOf c
  ((s.setLotState k .queued).setPres c { joinHead k p with pending := none, current := none, unrun := false }).fill c

/-- A lot leaves a queue from any position (R11, R47), and the queue is filled (R48). -/
def State.leaveQueue (s : State) (c k : Nat) : State :=
  let p := s.presOf c
  (s.setPres c { p with queue := p.queue.filter fun e => e.lot ≠ k }).fill c

end Sys2Proof.Machine
end

