-- ==== Sys2Proof/Machine/Halts.lean ====
section
/-! DEFINITION. Machine/Halts.lean: the three halts of a run (run-out, pause, stop), judging a stop, and the settle
window (R76 to R81, R85, R86, R94 to R103). -/

namespace Sys2Proof.Machine

/-! ## The HALT frame and the waiting halt (R77) -/

/-- Offers the clock's HALT frame at its position c (R77). -/
def State.offerHalt (s : State) (c : Nat) (reason : HaltReason) : Option State :=
  let k := s.clock c
  let p := k.position.getD 0
  s.offer (.halt c k.tag reason p (priceAt k p))

/-- The event waits for a slot: the clock stays RUNNING at c with its step timer stopped (R77). -/
def State.holdHalt (s : State) (c : Nat) (w : WaitHalt) : State :=
  (s.setClock c { s.clock c with waitHalt := some w, timer := none }).joinWait (.clock c) .halt

/-- Pause-pending is set with a cause; set again while set, the first cause is kept (R79). -/
def State.setPausePending (s : State) (c : Nat) (cause : PauseCause) : State :=
  let k := s.clock c
  if k.pausePending then s else s.setClock c { k with pausePending := true, cause := some cause }

/-- A rehearsal run ends: the clock is IDLE with the mark, S, M and c cleared (R86). -/
def State.endRehearsal (s : State) (c : Nat) : State :=
  s.setClock c
    { s.clock c with
      state := .idle, rehearsalRun := false, startPrice := none, reserve := none, position := none,
      pausePending := false, cause := none, winner := none, waitHalt := none, timer := none }

/-! ## Run-out (R76, R86) -/

/-- The lot part of a run-out: the count, then a re-offer or a closure (R9, R59, R76). -/
def State.runoutLot (s : State) (c k : Nat) : State :=
  match s.lot k with
  | none => s
  | some r =>
    let (r1, allowed) := countRunout r
    let s1 := s.setLot k (some r1)
    if allowed then s1.reOffer c k else s1.closeLot k .runout

/-- A run-out is taken, once its HALT frame has been placed (R76, R86). -/
def State.takeRunout (s : State) (c : Nat) : State :=
  let k := s.clock c
  if k.rehearsalRun then (s.endRehearsal c).raise .auc .clockRunout (.number c)
  else
    let s1 := s.giveUpReservation c
    let s2 := match k.lot with
      | none => s1
      | some l => s1.runoutLot c l
    let s3 := s2.letGo c
    (s3.setClock c { s3.clock c with pausePending := false, cause := none }).raise .auc .clockRunout (.number c)

/-! ## Pause (R78, R81, R86) -/

/-- A pause is taken, once its HALT frame has been placed; `told` says that AUC is given CLOCK_PAUSED. -/
def State.takePause (s : State) (c : Nat) (cause : PauseCause) (told : Bool) : State :=
  let k := s.clock c
  if k.rehearsalRun then s.endRehearsal c
  else
    let s1 := s.pauseAt c (k.position.getD 0) cause
    if told then s1.raisePaused c else s1

/-- A pause of a RUNNING clock by CLOCK_PAUSE or by the supply (R77, R78, R81). -/
def State.pauseRunning (s : State) (c : Nat) (cause : PauseCause) : State :=
  let k := s.clock c
  match k.waitHalt with
  | none =>
    match s.offerHalt c .pause with
    | some s1 => s1.takePause c cause (cause == .supply)
    | none =>
      s.holdHalt c
        { reason := .pause, position := k.position.getD 0, cause := some cause, candidate := none, replaced := none }
  | some w =>
    match w.reason with
    | .runout => s
    | .pause => s
    | .stop => if k.rehearsalRun ∧ cause = .auctioneer then s else s.setPausePending c cause

/-! ## Judging the desk and its buyer (R97, R98) -/

/-- The hold amount of a stop: the net of Emin stems at its price in the buyer's fee class (R98). -/
def State.holdFor (s : State) (buyer : Nat) (r : LotRec) (price : Nat) : Nat :=
  netOf (s.fee (s.acct buyer).feeClass) price (emin r)

/-- What the tests of the desk and its buyer find (R97). -/
inductive BuyerVerdict where
  | refused (code : DeskCode)
  | passed (buyer hold : Nat)
deriving DecidableEq, Repr

/-- The tests of R97, in their order. -/
def State.judgeBuyer (s : State) (desk : Nat) (r : LotRec) (price : Nat) : BuyerVerdict :=
  match (s.desk desk).buyer with
  | none => .refused .notSignedIn
  | some b =>
    let a := s.acct b
    if a.state ≠ .active then .refused .suspended
    else if a.isOver then .refused .credit
    else
      let hold := s.holdFor b r price
      if creditPasses a hold then .passed b hold else .refused .credit

/-- A stop judged into a winner record: with the buyer and hold in a run of a lot, without them in a rehearsal run
(R85, R93, R97, R99). -/
def State.judgeWinner (s : State) (c desk position : Nat) : Except DeskCode Winner :=
  let k := s.clock c
  let price := priceAt k position
  let w := fun (b : Option Nat) (hold : Nat) =>
    ({ desk := desk, buyer := b, position := position, price := price, hold := hold, given := none } : Winner)
  if k.rehearsalRun then .ok (w none 0)
  else
    match k.lot.bind s.lot with
    | none => .error .wrongRun
    | some r =>
      match s.judgeBuyer desk r price with
      | .refused code => .error code
      | .passed b hold => .ok (w (some b) hold)

/-! ## Taking a stop (R99 to R101) -/

/-- The hold of a winner record is placed or released; a rehearsal winner has none (R136). -/
def State.placeWinner (s : State) (w : Winner) : State :=
  match w.buyer with
  | none => s
  | some b => s.placeHold b w.hold

def State.releaseWinner (s : State) (w : Winner) : State :=
  match w.buyer with
  | none => s
  | some b => s.releaseHold b w.hold

/-- A reply to a STOP with a position and its price (R177). -/
def State.replyAt (s : State) (c desk : Nat) (code : DeskCode) (position : Nat) : State :=
  let k := s.clock c
  s.offerReply desk code (some c) k.tag (.positionPrice (some position) (priceOpt k position))

/-- A reply to a STOP with nothing in its detail. -/
def State.replyPlain (s : State) (c desk : Nat) (code : DeskCode) : State :=
  s.offerReply desk code (some c) (s.clock c).tag .nothing

/-- The first stop of a run is taken, once its HALT frame has been placed (R99). -/
def State.takeStop (s : State) (c : Nat) (w : Winner) : State :=
  let k := s.clock c
  let s1 := s.setClock c { k with state := .settling, winner := some w, waitHalt := none, timer := some k.set.settle }
  (s1.placeWinner w).replyAt c w.desk .accepted w.position

/-- A desk joins the rehearsal response set, if it is not in it (R85). -/
def State.joinResponses (s : State) (c desk : Nat) : State :=
  let k := s.clock c
  if k.rehearsalRun ∧ k.responses.contains desk = false then
    s.setClock c { k with responses := k.responses ++ [desk] }
  else s

/-- The stop candidate of a stop: it has no hold amount (R93). -/
def Winner.asCandidate (w : Winner) : Winner := { w with hold := 0 }

/-- A stop that has passed every test in RUNNING (R77, R99, R100): its HALT is offered, or waits, alone or in the place
of the halt that waited. -/
def State.stopRunning (s : State) (c : Nat) (w : Winner) : State :=
  let k := s.clock c
  let p := k.position.getD 0
  match k.waitHalt with
  | none =>
    match s.offerHalt c .stop with
    | some s1 => s1.takeStop c w
    | none =>
      s.holdHalt c { reason := .stop, position := p, cause := none, candidate := some w.asCandidate, replaced := none }
  | some h =>
    match h.reason with
    | .runout =>
      s.holdHalt c
        { reason := .stop, position := p, cause := none, candidate := some w.asCandidate, replaced := some .runout }
    | .pause =>
      (s.setPausePending c (h.cause.getD .auctioneer)).holdHalt c
        { reason := .stop, position := p, cause := none, candidate := some w.asCandidate, replaced := some .pause }
    | .stop =>
      s.holdHalt c { h with candidate := some w.asCandidate }

/-- A replacement in the settle window, as one change (R101). -/
def State.replaceWinner (s : State) (c : Nat) (old w : Winner) : State :=
  let s1 := (s.releaseWinner old).placeWinner w
  let s2 := s1.setClock c { s1.clock c with winner := some w }
  (s2.replyAt c old.desk .outbid w.position).replyAt c w.desk .accepted w.position

/-- A stop against the provisional winner of SETTLING (R101). The winner's own desk is answered ACCEPTED with this stop's
position after the clamp (R96, R177), and nothing changes. -/
def State.stopSettling (s : State) (c desk position : Nat) (old : Winner) : State :=
  if desk = old.desk then s.replyAt c desk .accepted position
  else if old.position ≤ position then s.replyAt c desk .outbid old.position
  else
    match s.judgeWinner c desk position with
    | .error code => s.replyPlain c desk code
    | .ok w => s.replaceWinner c old w

/-- A stop against the candidate of a waiting halt (R100). The candidate's own desk is answered ACCEPTED with this stop's
position after the clamp (R96, R177), and nothing changes. -/
def State.stopCandidate (s : State) (c desk position : Nat) (old : Winner) : State :=
  if desk = old.desk then s.replyAt c desk .accepted position
  else if old.position ≤ position then s.replyAt c desk .outbid old.position
  else
    match s.judgeWinner c desk position with
    | .error code => s.replyPlain c desk code
    | .ok w => (s.stopRunning c w).replyAt c old.desk .outbid w.position

/-- A stop for the clock's run, with its position clamped to c and not LATE (R96 to R101). In a rehearsal run its desk
joins the response set now, and not when a HALT that waits is placed (R85, log entry 51). -/
def State.stopInRun (s : State) (c desk position : Nat) : State :=
  let s := s.joinResponses c desk
  let k := s.clock c
  match k.state, k.winner, k.waitHalt.bind (·.candidate) with
  | .settling, some w, _ => s.stopSettling c desk position w
  | .running, _, some w => s.stopCandidate c desk position w
  | .running, _, none =>
    match s.judgeWinner c desk position with
    | .error code => s.replyPlain c desk code
    | .ok w => s.stopRunning c w
  | _, _, _ => s

/-- A STOP frame that names clock 0 to 5 (R95, R96). In HELD the run tag is judged first, as the table of R95 has it, where
R105 and R177 speak of every STOP frame (log entry 50). -/
def State.judgeStop (s : State) (c position desk tag : Nat) : State :=
  let k := s.clock c
  let wrongRun := s.offerReply desk .wrongRun (some c) tag (.runTag k.tag)
  let now := k.position.getD 0
  if tag ≠ k.tag then wrongRun
  else
    match k.state with
    | .idle => wrongRun
    | .loaded => wrongRun
    | .restartWait => wrongRun
    | .held => s.replyPlain c desk .taken
    | .paused =>
      s.offerReply desk .paused (some c) tag (.positionPrice k.position (k.position.bind (priceOpt k)))
    | .running =>
      if min position now + k.set.grace < now then s.replyAt c desk .late now
      else s.stopInRun c desk (min position now)
    | .settling =>
      if min position now + k.set.grace < now then s.replyAt c desk .late now
      else s.stopInRun c desk (min position now)

/-- A STOP frame (R92): clock 6 or 7 is no run. -/
def State.takeStopFrame (s : State) (c position desk tag : Nat) : State :=
  if c < Config.clocks then s.judgeStop c position desk tag
  else s.offerReply desk .wrongRun (some c) tag (.runTag 0)

/-! ## The candidate of a waiting halt, judged again (R100) -/

/-- The clock's slot comes while a stop candidate waits: the candidate is judged again, and the stop is taken, or the
slot carries the halt it displaced, or nothing (R100). A rehearsal candidate is always taken. -/
def State.rejudgeStop (s : State) (c : Nat) (h : WaitHalt) : State :=
  let k := s.clock c
  match h.candidate with
  | none => s
  | some old =>
    match s.judgeWinner c old.desk old.position with
    | .ok w => ((s.offerHalt c .stop).getD s).takeStop c w
    | .error code =>
      if h.replaced = some .runout then
        (((s.offerHalt c .runout).getD s).takeRunout c).offerReply old.desk code (some c) k.tag .nothing
      else if k.pausePending then
        (((s.offerHalt c .pause).getD s).takePause c (k.cause.getD .auctioneer) true).offerReply
          old.desk code (some c) k.tag .nothing
      else
        (s.setClock c { k with waitHalt := none, timer := some k.set.interval }).offerReply
          old.desk code (some c) k.tag .nothing

/-- The clock's slot comes while a halt waits (R77). -/
def State.grantHalt (s : State) (c : Nat) (h : WaitHalt) : State :=
  match h.reason with
  | .runout => ((s.offerHalt c .runout).getD s).takeRunout c
  | .pause =>
    let cause := h.cause.getD .auctioneer
    ((s.offerHalt c .pause).getD s).takePause c cause (cause == .supply)
  | .stop => s.rejudgeStop c h

/-! ## The supply warning (R81) -/

/-- What a supply warning does to a clock. -/
def State.warnClock (s : State) (c : Nat) : State :=
  let k := s.clock c
  match k.state with
  | .running => s.pauseRunning c .supply
  | .settling => s.setPausePending c .supply
  | .held => s.setPausePending c .supply
  | .restartWait =>
    if k.waitBegin.isSome then
      ((s.dropBegin c).pauseAt c (k.nextStart.getD 0) .supply).raisePaused c
    else s.setPausePending c .supply
  | .idle => s
  | .loaded => s
  | .paused => s

end Sys2Proof.Machine
end

