-- ==== Sys2Proof/Machine/Sale.lean ====
section
/-! DEFINITION. Machine/Sale.lean: the settle expiry, the quantity, the commit, what follows it, and the void (R86, R103
to R114). -/

namespace Sys2Proof.Machine

/-! ## Rehearsal sale (R86) -/

/-- Offers the SALE frame of a rehearsal run, with its stems, lot and remaining stems sent as 0 (R86, R198). -/
def State.offerRehearsalSale (s : State) (c : Nat) (w : Winner) : Option State :=
  s.offer (.sale c (s.clock c).tag true w.desk w.position w.price 0 0 0 0)

/-- The rehearsal SALE has been placed: the winning desk is sent WON and the run ends (R86). -/
def State.takeRehearsalSale (s : State) (c : Nat) (w : Winner) : State :=
  (s.replyAt c w.desk .won w.position).endRehearsal c

/-- The settle timer of a rehearsal run has expired (R86): a SALE that waits holds the clock in SETTLING. -/
def State.settleRehearsal (s : State) (c : Nat) (w : Winner) : State :=
  match s.offerRehearsalSale c w with
  | some s1 => (s1.takeRehearsalSale c w).judgeClocks none
  | none => (s.setClock c { s.clock c with timer := none }).joinWait (.clock c) .sale

/-- The provisional winner becomes the held winner (R103). -/
def State.settleSale (s : State) (c : Nat) (w : Winner) : State :=
  let k := s.clock c
  (s.setClock c { k with state := .held, timer := some k.set.hold }).replyAt c w.desk .won w.position

/-! ## The commit (R108 to R111) -/

/-- What a commit needs, read from the part as it stands: the lot, the buyer and the given quantity. -/
structure Sale where
  lot : Nat
  record : LotRec
  winner : Winner
  buyer : Nat
  given : Given
deriving DecidableEq, Repr

/-- The sale that waits for its commit on clock `c`. -/
def State.saleOf (s : State) (c : Nat) : Option Sale :=
  let k := s.clock c
  match k.lot, k.winner with
  | some l, some w =>
    match s.lot l, w.buyer, w.given with
    | some r, some b, some g => some { lot := l, record := r, winner := w, buyer := b, given := g }
    | _, _, _ => none
  | _, _ => none

/-- The final stems of a sale, fitted against the buyer's room as it stands (R108, R124, R125). -/
def State.stemsOf (s : State) (x : Sale) : Nat :=
  let a := s.acct x.buyer
  finalStems x.given x.record (fitsRoom (s.fee a.feeClass) x.winner.price (roomOf a x.winner.hold))

/-- The purchase entry and the journal entry of a commit of `q` stems (R4, R110, R149). -/
def State.purchaseOf (s : State) (x : Sale) (q : Nat) : Purchase :=
  { buyer := x.buyer, desk := x.winner.desk, stems := q, price := x.winner.price, position := x.winner.position
    net := netOf (s.fee (s.acct x.buyer).feeClass) x.winner.price q, seq := s.nextSeq }

def State.entryOf (s : State) (c : Nat) (x : Sale) (q : Nat) : JEntry :=
  let f := s.fee (s.acct x.buyer).feeClass
  { seq := s.nextSeq, kind := .purchase, clock := c, time := s.floorTime, lot := x.lot, catalogue := x.record.catalogue
    buyer := x.buyer, desk := x.winner.desk, tag := (s.clock c).tag, position := x.winner.position
    price := x.winner.price, stems := q, gross := grossOf x.winner.price q, fee := feeOf f x.winner.price q
    net := netOf f x.winner.price q, voided := none, check := 0, damaged := false }

/-- The reservation is consumed and the entry is appended (R110, R151, R152). -/
def State.journalCommit (s : State) (c : Nat) (x : Sale) (q : Nat) : State :=
  let e := s.entryOf c x q
  (s.giveUpReservation c).append e

/-- The lot table's part of a commit (R5, R110). -/
def State.lotCommit (s : State) (x : Sale) (p : Purchase) : State :=
  let r := commitPurchase x.record p
  let s1 := s.setLot x.lot (some r)
  if r.state.closed then s1.reportClosure r.train else s1

/-- The records of a commit: journal, account and lot, as one change (R110). -/
def State.commitRecords (s : State) (c : Nat) (x : Sale) (q : Nat) : State :=
  let p := s.purchaseOf x q
  ((s.journalCommit c x q).bookPurchase x.buyer x.winner.hold p.net p.seq).lotCommit x p

/-- The clock's part of a commit: the winner becomes absent and the lot is the last sold; the desk is sent QUANTITY_SET
and AUC is given CLOCK_SOLD (R110). -/
def State.commitTold (s : State) (c : Nat) (x : Sale) (q : Nat) : State :=
  let k := s.clock c
  let s1 := s.setClock c { k with winner := none, lastSold := some x.lot }
  (s1.offerReply x.winner.desk .quantitySet (some c) k.tag
    (.sold q x.winner.position x.winner.price)).raise .auc .clockSold (.number c)

/-- The clock goes on after a commit whose lot has closed: it lets go, and pause-pending is resolved (R79, R111). -/
def State.afterClosed (s : State) (c : Nat) : State :=
  let k := s.clock c
  let s1 := s.letGo c
  if k.pausePending then
    ((s1.setClock c { s1.clock c with pausePending := false, cause := none }).raisePaused c).settleQuiet (some c)
  else s1.settle

/-- The clock goes on after a commit whose lot stays ON_CLOCK: RESTART_WAIT (R111). -/
def State.afterOpen (s : State) (c position : Nat) : State :=
  let k := s.clock c
  (s.setClock c
    { k with
      state := .restartWait, nextStart := some (position - k.set.restartRaise),
      timer := some k.set.restartDelay }).settle

/-- A commit of `q` stems, once its SALE frame has been placed (R110, R111). -/
def State.takeCommit (s : State) (c : Nat) (x : Sale) (q : Nat) : State :=
  let s1 := (s.commitRecords c x q).commitTold c x q
  if s1.lotIs x.lot .onClock then s1.afterOpen c x.winner.position else s1.afterClosed c

/-- The SALE frame of a commit of `q` stems (R109). -/
def State.saleFrame (s : State) (c : Nat) (x : Sale) (q : Nat) : OutFrame :=
  .sale c (s.clock c).tag false x.winner.desk x.winner.position x.winner.price q x.lot x.record.catalogue
    (x.record.remaining - q)

/-- The commit is made, or waits for a slot (R109). -/
def State.attemptCommit (s : State) (c : Nat) : State :=
  match s.saleOf c with
  | none => s
  | some x =>
    let q := s.stemsOf x
    match s.offer (s.saleFrame c x q) with
    | some s1 => s1.takeCommit c x q
    | none => s.joinWait (.clock c) .sale

/-- The quantity is given: the hold timer stops and the commit is made (R106, R107). -/
def State.giveQuantity (s : State) (c : Nat) (g : Given) : State :=
  let k := s.clock c
  let s1 := s.setClock c { k with winner := k.winner.map fun w => { w with given := some g }, timer := none }
  s1.attemptCommit c

/-- A QUANTITY frame that names clock 0 to 5 (R106). -/
def State.judgeQuantity (s : State) (c desk tag : Nat) (g : Given) : State :=
  let k := s.clock c
  let reply := fun code d => s.offerReply desk code (some c) tag d
  match k.winner with
  | none => reply .notWinner .nothing
  | some w =>
    if k.state ≠ .held then reply .notWinner .nothing
    else if w.desk ≠ desk then reply .taken .nothing
    else if k.tag ≠ tag then reply .wrongRun (.runTag k.tag)
    else if w.given.isSome then reply .taken .nothing
    else s.giveQuantity c g

/-- A QUANTITY frame (R92). -/
def State.takeQuantityFrame (s : State) (c desk tag : Nat) (g : Given) : State :=
  if c < Config.clocks then s.judgeQuantity c desk tag g
  else s.offerReply desk .wrongRun (some c) tag (.runTag 0)

/-! ## Void (R112 to R114) -/

/-- What VOID_LAST is found to be (R112). -/
inductive VoidVerdict where
  | refused (code : ReplyCode)
  | taken (lot : Nat) (r : LotRec) (p : Purchase)
deriving DecidableEq, Repr

/-- The lot of a LOADED or IDLE clock is out of reach: it has no train, or its train is not PRESENTING (R112 case 4). -/
def State.voidOutOfReach (s : State) (c : Nat) (r : LotRec) : Bool :=
  let k := s.clock c
  (k.state == .loaded || k.state == .idle) &&
  match r.train with
  | none => true
  | some t => (s.train t).state != .presenting

/-- The lot table would take a purchase removal for the lot from clock `c`, by its state (R6). -/
def removable (r : LotRec) (c : Nat) : Bool :=
  (r.state == .onClock && r.clock == some c) || r.state == .soldOut || r.state == .partSold

/-- The checks of R112 from case 2 on, in their order. A buyer whose account is DAMAGED is no ground for a refusal (log
entry 43). -/
def State.judgeVoid (s : State) (c : Nat) : VoidVerdict :=
  let k := s.clock c
  if k.state = .running ∨ k.state = .settling ∨ k.state = .held then .refused .wrongState
  else
    match k.lastSold with
    | none => .refused .empty
    | some l =>
      match s.lot l with
      | none => .refused .wrongState
      | some r =>
        if s.voidOutOfReach c r then .refused .wrongState
        else
          match r.purchases.getLast? with
          | none => .refused .empty
          | some p =>
            if removable r c = false then .refused .wrongState
            else if (s.acct p.buyer).state = .vacant then .refused .wrongState
            else if s.journalIsFull then .refused .journalFull
            else if k.state = .loaded ∧ k.lot ≠ some l ∧ Config.queueSize ≤ (s.presOf c).queue.length then
              .refused .full
            else .taken l r p

/-- The VOID entry of a purchase (R113, R149): the gross is the price times the stems, the fee the net less the gross. -/
def State.voidEntry (s : State) (c l : Nat) (r : LotRec) (p : Purchase) : JEntry :=
  { seq := s.nextSeq, kind := .void, clock := c, time := s.floorTime, lot := l, catalogue := r.catalogue
    buyer := p.buyer, desk := p.desk, tag := (s.clock c).tag, position := p.position, price := p.price
    stems := p.stems, gross := p.price * p.stems, fee := p.net - p.price * p.stems, net := p.net
    voided := some p.seq, check := 0, damaged := false }

/-- The records of a void: journal, lot and account (R113), a DAMAGED account excepted (R137, log entry 43). A void
raises used plus reserved (R153). -/
def State.voidRecords (s : State) (c l : Nat) (r : LotRec) (p : Purchase) : State :=
  let seq := s.nextSeq
  (((s.append (s.voidEntry c l r p)).judgeLow).setLot l (some (removePurchase r p c seq))).bookVoid p.buyer p.net seq

/-- A LOADED clock gives back a current lot that is not the voided one (R114). -/
def State.voidGiveBack (s : State) (c l : Nat) : State :=
  let k := s.clock c
  match k.lot with
  | none => s
  | some m => if k.state = .loaded ∧ m ≠ l then s.giveBack c m else s

/-- The clock's part of a void: PAUSED with the lot as current lot (R113), at the position it last stood at (R65). S and M
stay as they stand (log entry 18). A pending start becomes absent, also where the lot that was loaded is the voided lot
itself (log entry 39). -/
def State.voidClock (s : State) (c l : Nat) : State :=
  let s1 := s.dropBegin c
  let k := s1.clock c
  let s2 := s1.setClock c
    { k with
      state := .paused, lot := some l, position := k.lastStood, nextStart := some 0, cause := some .auctioneer,
      pausePending := false, timer := none, winner := none }
  s2.setPres c { s2.presOf c with pending := none }

/-- A void that is taken (R113, R114). -/
def State.takeVoid (s : State) (c l : Nat) (r : LotRec) (p : Purchase) : State :=
  (((s.voidGiveBack c l).voidRecords c l r p).voidClock c l).settle

end Sys2Proof.Machine
end

