-- ==== Sys2Proof/Machine/Grants.lean ====
section
/-! DEFINITION. Machine/Grants.lean: giving a freed outbound place to the producers that wait (R173), and the end of a
sending (R174, R175). -/

namespace Sys2Proof.Machine

/-- The outbound queue has a free place. -/
def State.hasRoom (s : State) : Bool := s.line.outbound.length < Config.outboundSize

/-- A waiting begin is made again from step 1, with its failed check handled by its kind (R72, R73, log entry 16). -/
def State.beginAgain (s : State) (c : Nat) (kind : BeginKind) : State :=
  let s0 := s.setClock c { s.clock c with waitBegin := none }
  let (o, s1) := s0.beginRun c kind
  match o with
  | .taken => s1
  | .waiting => s1
  | .noSupply =>
    match kind with
    | .startPending => s0.raisePaused c
    | .restart => s0.restartFailed c .supply
    | .startCommand => s0
    | .resume => s0
    | .rehearsal => s0
  | .noJournal =>
    match kind with
    | .startPending => s0.raisePaused c
    | .restart => s0.restartFailed c .journal
    | .startCommand => s0
    | .resume => s0
    | .rehearsal => s0

/-- The SALE of a clock whose slot comes: a rehearsal sale, or a commit made afresh (R86, R109). -/
def State.grantSale (s : State) (c : Nat) : State :=
  let k := s.clock c
  match k.winner with
  | none => s
  | some w => if k.rehearsalRun then s.settleRehearsal c w else s.attemptCommit c

/-- A producer has been given the place: it builds its frame afresh and places it, or gives the place back (R173). -/
def State.produce (s : State) : Producer → State
  | .presentation => s.announceStep.2
  | .clock c =>
    let k := s.clock c
    match k.waitHalt, k.waitBegin with
    | some h, _ => s.grantHalt c h
    | none, some b => s.beginAgain c b.kind
    | none, none => s.grantSale c

/-- Freed places are given to the waiting producers in the order of R173, at most `n` times. -/
def State.grantUpTo : Nat → State → State
  | 0, s => s
  | n + 1, s =>
    if s.hasRoom then
      match nextWaiter s.line.waits with
      | none => s
      | some e => State.grantUpTo n ((s.leaveWait e.who).produce e.who)
    else s

/-- A place has freed (R173). What the grants moved is judged by the presentation unit, which offers further due lots
only while a place is free (09 section 9.9, log entry 14). -/
def State.placeFreed (s : State) : State :=
  let s1 := State.grantUpTo 14 s
  if s1.hasRoom then s1.settle else s1.judgeClocks none

/-! ## The end of a sending (R174, R175, R179) -/

/-- The frame at the head leaves the queue, and its place frees. -/
def State.leaveHead (s : State) : State :=
  ((s.setSending none).setOutbound s.line.outbound.tail).placeFreed

/-- The head stays, to be sent again from the next idle. -/
def State.resend (s : State) : State := s.setSending none

/-- The addressee of a delivered reply, or the sender of a good frame, is REACHABLE with a count of 0 (R169, R175). -/
def State.reached (s : State) (d : Nat) : State :=
  s.setDesk d { s.desk d with reachable := true, undelivered := 0 }

/-- A drop raises the addressee's count, up to 255; a count of 3 makes a REACHABLE desk UNREACHABLE (R175). -/
def State.countDrop (s : State) (d : Nat) : State :=
  let e := s.desk d
  let n := min (e.undelivered + 1) 255
  if e.reachable ∧ n = 3 then
    (s.setDesk d { e with undelivered := n, reachable := false }).raise .sup .deskUnreachable (.number d)
  else s.setDesk d { e with undelivered := n }

/-- A REPLY that was not delivered: it is resent up to 3 times, or once for an UNREACHABLE desk, and then dropped
(R175). -/
def State.replyFailed (s : State) (d sent : Nat) : State :=
  if (s.desk d).reachable = false ∨ 4 ≤ sent then (s.countDrop d).leaveHead else s.resend

/-- A broadcast that was disturbed: it is resent up to 3 times and then dropped (R174). -/
def State.broadcastDisturbed (s : State) (sent : Nat) : State := if 4 ≤ sent then s.leaveHead else s.resend

end Sys2Proof.Machine
end

