-- ==== Sys2Proof/Machine/ClockEvents.lean ====
section
/-! DEFINITION. Machine/ClockEvents.lean: the expiries of the clock timers and the coming due of a pending start (R55,
R71, R75, R79, R86, R103, R107, R111). An event whose condition does not stand changes nothing (log entry 4). -/

namespace Sys2Proof.Machine

/-- The timer of a clock in state `q` has run out. -/
def State.timeUp (s : State) (c : Nat) (q : ClockState) : Bool :=
  s.isOn && (s.clock c).state == q && (s.clock c).timer == some 0

/-- PENDING_START_DUE (R55, R57). -/
def execPendingStartDue (c : Nat) (s : State) : Host.Outcome State Fault Refusal :=
  .next (if s.isOn then s.judgeStart c else s)

/-- The clock may step: the next position is on the face, with a price at or above M (R75). -/
def mayStep (k : Clock) : Bool :=
  let p := k.position.getD 0 + 1
  p ≤ 99 && k.reserve.getD 0 + p * k.set.step ≤ k.startPrice.getD 0

/-- A step to the next position (R75). -/
def State.stepOn (s : State) (c : Nat) : State :=
  let k := s.clock c
  s.setClock c { k with position := some (k.position.getD 0 + 1), timer := some k.set.interval }

/-- A run-out: its HALT frame is placed and it is taken, or it waits (R76, R77). -/
def State.runOut (s : State) (c : Nat) : State :=
  match s.offerHalt c .runout with
  | some s1 => (s1.takeRunout c).settle
  | none =>
    s.holdHalt c
      { reason := .runout, position := (s.clock c).position.getD 0, cause := none, candidate := none
        replaced := none }

/-- STEP_TIMER_EXPIRY (R75, R76). -/
def execStepTimerExpiry (c : Nat) (s : State) : Host.Outcome State Fault Refusal :=
  .next
    (if s.timeUp c .running then if mayStep (s.clock c) then s.stepOn c else s.runOut c else s)

/-- The settle timer has expired: the held sale begins, or a rehearsal run is ended by its SALE frame (R86, R103). -/
def State.settleUp (s : State) (c : Nat) : State :=
  let k := s.clock c
  match k.winner with
  | none => s
  | some w => if k.rehearsalRun then s.settleRehearsal c w else s.settleSale c w

/-- SETTLE_EXPIRY (R86, R103). -/
def execSettleExpiry (c : Nat) (s : State) : Host.Outcome State Fault Refusal :=
  .next (if s.timeUp c .settling then s.settleUp c else s)

/-- The given quantity becomes Emin, and the commit is made (R107). -/
def State.holdUp (s : State) (c : Nat) : State :=
  match (s.clock c).lot.bind s.lot with
  | none => s
  | some r => s.giveQuantity c (.stems (emin r))

/-- HOLD_TIMER_EXPIRY (R107). -/
def execHoldTimerExpiry (c : Nat) (s : State) : Host.Outcome State Fault Refusal :=
  .next (if s.timeUp c .held then s.holdUp c else s)

/-- The restart begins, or fails its check and pauses the clock (R71 to R73). -/
def State.restart (s : State) (c : Nat) : State :=
  let s1 := s.setClock c { s.clock c with timer := none }
  let (o, s2) := s1.beginRun c .restart
  match o with
  | .taken => s2
  | .waiting => s2
  | .noSupply => s1.restartFailed c .supply
  | .noJournal => s1.restartFailed c .journal

/-- The restart timer has expired (R71, R79). -/
def State.restartUp (s : State) (c : Nat) : State :=
  let k := s.clock c
  if k.pausePending then s.restartFailed c (k.cause.getD .auctioneer) else s.restart c

/-- RESTART_TIMER_EXPIRY (R71, R79, R111). -/
def execRestartTimerExpiry (c : Nat) (s : State) : Host.Outcome State Fault Refusal :=
  .next (if s.timeUp c .restartWait then s.restartUp c else s)

end Sys2Proof.Machine
end

