-- ==== Sys2Proof/Machine/DeskEvents.lean ====
section
/-! DEFINITION. Machine/DeskEvents.lean: a desk frame on the line, and the frames of the inbound queue at their turn
(R92, R144, R145, R166 to R170, R176, R199). -/

namespace Sys2Proof.Machine

/-! ## Receiving (R166, R168, R169) -/

/-- The part drives the acknowledge slot. -/
def State.setAck (s : State) (dominant : Bool) : State := { s with line := { s.line with ack := dominant } }

/-- A good frame joins the inbound queue and is acknowledged, or is discarded unacknowledged when the queue is full
(R168, R170). -/
def State.acknowledge (s : State) (f : WireFrame) : State :=
  let q := s.line.inbound
  if q.length < Config.inboundSize then
    (s.setInbound (q ++ [{ cls := f.cls, arb := f.arb, source := f.source, payload := f.payload }])).setAck true
  else s.setAck false

/-- A frame on the line (R166, R168, R169). A bad frame and one that the part does not take have no effect. -/
def State.receive (s : State) (f : WireFrame) : State :=
  if deskGood f then (s.reached f.source).acknowledge f else s.setAck false

/-- DESK_FRAME_RECEIVE (R168). -/
def execDeskFrameReceive (f : WireFrame) (s : State) : Host.Outcome State Fault Refusal :=
  .next (if s.isOn then s.receive f else s)

/-! ## Handing on (R170) -/

/-- The frame whose turn it is, read from its fields; none while the part is halted or the queue is empty. -/
def State.turn (s : State) : Option DeskMsg :=
  if s.isOn then s.line.inbound.head?.map readDesk else none

/-- A frame leaves the inbound queue when it is handed on. -/
def State.handOn (s : State) : State := s.setInbound s.line.inbound.tail

/-- STOP: the frame at the head of the inbound queue is a STOP and is judged (R92, R94). -/
def execStop (s : State) : Host.Outcome State Fault Refusal :=
  match s.turn with
  | some (.stop c position desk tag) => .next (s.handOn.takeStopFrame c position desk tag)
  | _ => .next s

/-- QUANTITY (R92, R106). -/
def execQuantity (s : State) : Host.Outcome State Fault Refusal :=
  match s.turn with
  | some (.quantity c desk tag g) => .next (s.handOn.takeQuantityFrame c desk tag g)
  | _ => .next s

/-! ## Signing in and out (R144, R145) -/

/-- A reply to a service frame (R198). -/
def State.serviceReply (s : State) (desk : Nat) (code : DeskCode) (detail : ReplyDetail) : State :=
  s.offerReply desk code none 0 detail

/-- A SIGN_IN frame from a desk (R144). -/
def State.judgeSignIn (s : State) (desk badge : Nat) : State :=
  match if badge = 0 then none else s.findBadge badge with
  | none => s.serviceReply desk .unknownBadge .nothing
  | some b =>
    let a := s.acct b
    if a.state ≠ .active then s.serviceReply desk .suspended .nothing
    else if a.desk.isSome = true ∧ a.desk ≠ some desk then s.serviceReply desk .inUse .nothing
    else if (s.desk desk).buyer.isSome = true ∧ (s.desk desk).buyer ≠ some b then
      s.serviceReply desk .deskBusy .nothing
    else (s.bind desk b).serviceReply desk .signedIn (.badge (some badge))

/-- SIGN_IN (R144). -/
def execSignIn (s : State) : Host.Outcome State Fault Refusal :=
  match s.turn with
  | some (.signIn desk badge) => .next (s.handOn.judgeSignIn desk badge)
  | _ => .next s

/-- A SIGN_OUT frame from a desk (R145). -/
def State.judgeSignOut (s : State) (desk : Nat) : State :=
  match (s.desk desk).buyer with
  | none => s.serviceReply desk .notSignedIn .nothing
  | some b =>
    if s.isWinner desk then s.serviceReply desk .winner .nothing
    else (s.unbind desk b).serviceReply desk .signedOut .nothing

/-- SIGN_OUT (R145). -/
def execSignOut (s : State) : Host.Outcome State Fault Refusal :=
  match s.turn with
  | some (.signOut desk) => .next (s.handOn.judgeSignOut desk)
  | _ => .next s

/-! ## STATUS_ASK and malformed frames (R170, R176) -/

/-- The winner marks of a desk, clock 0 first (R176). -/
def State.marks (s : State) (desk : Nat) : List WinMark := clockNumbers.map (s.winMark desk)

/-- The reply to STATUS_ASK (R176). -/
def State.answerStatus (s : State) (desk : Nat) : State :=
  match (s.desk desk).buyer with
  | none => s.serviceReply desk .notSignedIn (.badgeMarks none (s.marks desk))
  | some b => s.serviceReply desk .signedIn (.badgeMarks (s.acct b).badge (s.marks desk))

/-- STATUS_ASK (R176). -/
def execStatusAsk (s : State) : Host.Outcome State Fault Refusal :=
  match s.turn with
  | some (.statusAsk desk) => .next (s.handOn.answerStatus desk)
  | _ => .next s

/-- MALFORMED_FRAME_DISCARD: the frame is discarded at its turn, with no reply (R170, R199). -/
def execMalformedFrameDiscard (s : State) : Host.Outcome State Fault Refusal :=
  match s.turn with
  | some .malformed => .next s.handOn
  | _ => .next s

end Sys2Proof.Machine
end

