-- ==== Sys2Proof/Machine/LineEvents.lean ====
section
/-! DEFINITION. Machine/LineEvents.lean: the frames that the part sends on the desk line (R171, R174, R175, R179). -/

namespace Sys2Proof.Machine

/-- The part begins the frame at the head of the outbound queue; its check byte is computed then (R174, R199). -/
def State.beginSending (s : State) : State :=
  match s.line.outbound with
  | [] => s
  | p :: t =>
    (s.setOutbound ({ p with sent := p.sent + 1 } :: t)).setSending
      (some { frame := p.frame, wire := p.frame.wire, orphan := false })

/-- FRAME_SEND_BEGIN (R174): the line is idle. -/
def execFrameSendBegin (s : State) : Host.Outcome State Fault Refusal :=
  .next (if s.isOn ∧ s.line.sending = none then s.beginSending else s)

/-- The number of times that the frame at the head has been sent. -/
def State.sentCount (s : State) : Nat :=
  match s.line.outbound with
  | [] => 0
  | p :: _ => p.sent

/-- A broadcast has been sent whole: it leaves the queue (R174). One left over from a floor reset only leaves the line
(R179). -/
def State.sentWhole (s : State) (f : Sending) : State := if f.orphan then s.setSending none else s.leaveHead

/-- BROADCAST_SENT (R174). -/
def execBroadcastSent (s : State) : Host.Outcome State Fault Refusal :=
  match s.line.sending with
  | none => .next s
  | some f => .next (if f.frame.isReply then s else s.sentWhole f)

/-- The frame on the line was not taken: a reply whose slot stayed recessive, or a frame that was disturbed (R174, R175,
R179). -/
def State.failed (s : State) (f : Sending) : State :=
  if f.orphan then s.setSending none
  else
    match f.frame with
    | .reply d _ _ _ _ => s.replyFailed d s.sentCount
    | .run _ _ _ _ _ _ _ _ | .halt _ _ _ _ _ | .sale _ _ _ _ _ _ _ _ _ _ | .announce _ _ _ _ _ _ _ _ _ _ =>
      s.broadcastDisturbed s.sentCount

/-- DISTURBANCE (R165, R174, R175). -/
def execDisturbance (s : State) : Host.Outcome State Fault Refusal :=
  match s.line.sending with
  | none => .next s
  | some f => .next (s.failed f)

/-- A reply has been delivered to its addressee (R175). -/
def State.delivered (s : State) (f : Sending) (d : Nat) : State :=
  let s1 := s.reached d
  if f.orphan then s1.setSending none else s1.leaveHead

/-- REPLY_DELIVERED: the acknowledge slot of a reply is dominant (R175). -/
def execReplyDelivered (s : State) : Host.Outcome State Fault Refusal :=
  match s.line.sending with
  | none => .next s
  | some f =>
    match f.frame with
    | .reply d _ _ _ _ => .next (s.delivered f d)
    | .run _ _ _ _ _ _ _ _ | .halt _ _ _ _ _ | .sale _ _ _ _ _ _ _ _ _ _ | .announce _ _ _ _ _ _ _ _ _ _ => .next s

/-- REPLY_NOT_DELIVERED: the acknowledge slot of a reply stays recessive (R175). -/
def execReplyNotDelivered (s : State) : Host.Outcome State Fault Refusal :=
  match s.line.sending with
  | none => .next s
  | some f => .next (if f.frame.isReply then s.failed f else s)

end Sys2Proof.Machine
end

