-- ==== Sys2Proof/Machine/Ports.lean ====
section
/-! DEFINITION. Machine/Ports.lean: taking a command on a port, its reply, and the open transfer (R181 to R186, R192). -/

namespace Sys2Proof.Machine

/-- A block's answer to a command: the reply code, the reply fields, and the part after the change (R182). -/
structure Answer where
  code : ReplyCode
  fields : List Byte
  state : State
deriving DecidableEq, Repr

/-- A command that is taken, with the fields of its reply. -/
def Answer.ok (s : State) (fields : List Byte) : Answer := { code := .ok, fields := fields, state := s }

/-- A command that is refused: the reply has no fields and nothing changes (R197). -/
def Answer.refuse (s : State) (code : ReplyCode) : Answer := { code := code, fields := [], state := s }

/-! ## The reply slot and the transfer (R181, R185, R186) -/

/-- The reply is placed in the port's reply slot (R181). -/
def State.putReply (s : State) (p : Port) (tag : Nat) (code : ReplyCode) (fields : List Byte) : State :=
  s.setPort p { s.port p with slot := some { tag := tag, code := code, fields := fields } }

/-- The open transfer of a port is aborted (R186). -/
def State.abortTransfer (s : State) (p : Port) : State :=
  let x := s.port p
  match x.xfer with
  | none => s
  | some f =>
    (s.setPort p
      { x with xfer := none, busy := false, last := some { complete := false, kind := f.kind, done := f.done } }).raise
      .sup .commandAborted (.aborted p f.done)

/-- The open transfer of a port ends complete (R185). -/
def State.completeTransfer (s : State) (p : Port) (f : Xfer) : State :=
  s.setPort p
    { s.port p with
      xfer := none, busy := false, last := some { complete := true, kind := f.kind, done := f.done } }

/-- The transfer stands with `f.done` units done; when they reach the units expected it ends complete (R185). -/
def State.countUnits (s : State) (p : Port) (f : Xfer) : State :=
  if f.expected = some f.done then s.completeTransfer p f
  else s.setPort p { s.port p with xfer := some f, busy := true }

/-- A long command opens its port's transfer with `done` units done (R185). -/
def State.openTransfer (s : State) (p : Port) (kind : XferKind) (expected : Option Nat) (done : Nat) : State :=
  s.countUnits p { kind := kind, expected := expected, done := done, next := 0 }

/-- The length of the unit that a DATA frame carries for a transfer (R196). -/
def XferKind.unitLength : XferKind → Nat
  | .lotWrite => 18
  | .layoutWrite => 13
  | .report _ => 0
  | .closeAll => 0

/-- The length of a DATA frame of the port: that of the unit of its open transfer, if it has one (R196). -/
def State.wantedLength (s : State) (p : Port) : Option Nat := (s.port p).xfer.map (·.kind.unitLength)

/-! ## Taking a command (R182, R186, R192) -/

/-- The role of a command admits it on the port (R182); none is a command of every port. -/
def roleAllows (role : Option Port) (p : Port) : Bool :=
  match role with
  | none => true
  | some r => r == p

/-- The reply of an answer is placed in the slot (R181). -/
def Answer.reply (a : Answer) (p : Port) (tag : Nat) : State := a.state.putReply p tag a.code a.fields

/-- A command other than DATA is taken on port `p`: an open transfer is aborted, the role is judged, the block answers,
and the reply is placed (R182, R186). A command given while the part is halted or starting is not taken (R160, R192). -/
def State.command (s : State) (p : Port) (tag : Nat) (role : Option Port) (block : State → Answer) : State :=
  if s.isOn then
    let s1 := s.abortTransfer p
    if roleAllows role p then (block s1).reply p tag else s1.putReply p tag .notPermitted []
  else s

/-! ## Exchanges (R181, R192, R196) -/

/-- The bytes that a port returns in an exchange: the status summary, then the contents of the reply slot (R196). -/
def State.returnedBytes (s : State) (p : Port) : List Byte :=
  match (s.port p).slot with
  | none => [s.statusByte p, 0#8] ++ Config.emptySlotBytes
  | some r => [s.statusByte p, BitVec.ofNat 8 r.tag] ++ u1 r.code.code ++ u1 r.fields.length ++ r.fields

/-- The port drives its exchange output (log entry 32). -/
def State.drive (s : State) (p : Port) (bytes : List Byte) : State :=
  s.setPort p { s.port p with returned := bytes }

end Sys2Proof.Machine
end

