-- ==== Sys2Proof/Machine/AucCommands.lean ====
section
/-! DEFINITION. Machine/AucCommands.lean: the commands of the AUC role (R52, R54, R66, R67, R74, R78, R80, R82, R84, R87,
R88, R112 to R114). -/

namespace Sys2Proof.Machine

/-- The clock number lies in 0 to 5; a command that names another is refused with NO_RECORD (00 section 6). -/
def clockGuard (s : State) (c : Nat) (a : Answer) : Answer := if c < Config.clocks then a else .refuse s .noRecord

/-! ## Settings and mode (R66, R67) -/

/-- The settings, each clamped into its range (R64, R66). -/
def clampSettings (r : Settings) : Settings :=
  { step := clamp 1 5000 r.step, interval := clamp 5 250 r.interval, span := clamp 10 99 r.span
    grace := clamp 0 5 r.grace, settle := clamp 10 200 r.settle, hold := clamp 1000 15000 r.hold
    restartDelay := clamp 200 5000 r.restartDelay, restartRaise := clamp 0 99 r.restartRaise
    depth := clamp 1 4 r.depth, lead := clamp 0 20000 r.lead, pause := clamp 200 5000 r.pause
    autoAdvance := r.autoAdvance, autoStart := r.autoStart
    rehearsalStart := clamp 1 99999 r.rehearsalStart, rehearsalReserve := clamp 1 99999 r.rehearsalReserve }

/-- The settings are stored, and what they bring about in other blocks happens in the same step (R66): the lots that
became due are announced first, and the pending start is judged last (log entry 56). -/
def State.storeSettings (s : State) (c : Nat) (r : Settings) : State :=
  (s.setClock c { s.clock c with set := r }).settle.judgeStart c

def State.clockSetBlock (s : State) (c : Nat) (r : Settings) : Answer :=
  clockGuard s c <|
    match (s.clock c).state with
    | .idle => .ok (s.storeSettings c (clampSettings r)) (clampSettings r).bytes
    | .loaded => .ok (s.storeSettings c (clampSettings r)) (clampSettings r).bytes
    | .running | .settling | .held | .restartWait | .paused => .refuse s .clockBusy

/-- CLOCK_SET (R66). -/
def execClockSet (p : Port) (t : Nat) (c : Nat) (r : Settings) (s : State) : Host.Outcome State Fault Refusal :=
  .next (s.command p t (some .auc) fun q => q.clockSetBlock c r)

/-- The rehearsal flag changes (R67): a waiting begin is dropped, on makes the last-sold lot absent, off empties the
response set. -/
def State.setMode (s : State) (c : Nat) (on : Bool) : State :=
  let s1 := s.dropBegin c
  let k := s1.clock c
  (s1.setClock c
    { k with
      rehearsal := on, lastSold := if on then none else k.lastSold
      responses := if on then k.responses else [] }).settle

/-- The checks of CLOCK_MODE; a value that the flag has already changes nothing, a waiting rehearsal begin included (R67,
log entry 40). -/
def State.clockModeBlock (s : State) (c : Nat) (on : Bool) : Answer :=
  clockGuard s c <|
    if (s.clock c).state ≠ .idle then .refuse s .clockBusy
    else if (s.clock c).rehearsal = on then .ok s []
    else .ok (s.setMode c on) []

/-- CLOCK_MODE (R67). -/
def execClockMode (p : Port) (t : Nat) (c : Nat) (on : Bool) (s : State) : Host.Outcome State Fault Refusal :=
  .next (s.command p t (some .auc) fun q => q.clockModeBlock c on)

/-! ## Load and start (R52, R54, R74) -/

def State.clockLoadBlock (s : State) (c : Nat) : Answer :=
  clockGuard s c <|
    let k := s.clock c
    if k.rehearsal then .refuse s .mode
    else if k.state ≠ .idle then .refuse s .wrongState
    else
      match (s.presOf c).queue with
      | [] => .refuse s .empty
      | e :: _ =>
        if s.lotIs e.lot .announced then .ok (s.load c).settle (u2 e.lot) else .refuse s .notAnnounced

/-- CLOCK_LOAD (R52). -/
def execClockLoad (p : Port) (t : Nat) (c : Nat) (s : State) : Host.Outcome State Fault Refusal :=
  .next (s.command p t (some .auc) fun q => q.clockLoadBlock c)

/-- The lead that remains, in milliseconds; absent while the announce record is absent (R54). -/
def State.leadLeft (s : State) (c : Nat) : Option Nat :=
  (s.presOf c).current.map fun a => (s.clock c).set.lead - a.age

/-- The journal cannot give clock `c` the reservation that it lacks (R71, R74). -/
def State.noReservation (s : State) (c : Nat) : Bool := !(s.clock c).reserved && s.journalIsFull

/-- The reply code of a begin made by a command (R72). -/
def BeginOutcome.code : BeginOutcome → ReplyCode
  | .taken => .ok
  | .waiting => .ok
  | .noSupply => .supply
  | .noJournal => .journalFull

/-- A begin made by a command, with its reply (R72). -/
def State.beginBlock (s : State) (c : Nat) (kind : BeginKind) : Answer :=
  let (o, s1) := s.beginRun c kind
  { code := o.code, fields := [], state := s1 }

/-- An unmet lead makes a MANUAL pending start; the reply carries the pending mark and the remaining lead (R54). -/
def State.pendStart (s : State) (c : Nat) : Answer :=
  .ok (s.setPres c { s.presOf c with pending := some .manual }) (onByte true ++ optF4 (s.leadLeft c))

def State.clockStartBlock (s : State) (c : Nat) : Answer :=
  clockGuard s c <|
    let k := s.clock c
    if k.state ≠ .loaded then .refuse s .wrongState
    else if s.supplyOk = false then .refuse s .supply
    else if s.noReservation c then .refuse s .journalFull
    else if k.waitBegin.isSome then .ok s []
    else if s.leadMet c then s.beginBlock c .startCommand
    else s.pendStart c

/-- CLOCK_START (R54, R74). -/
def execClockStart (p : Port) (t : Nat) (c : Nat) (s : State) : Host.Outcome State Fault Refusal :=
  .next (s.command p t (some .auc) fun q => q.clockStartBlock c)

/-! ## Pause, resume, skip (R78, R80, R82) -/

/-- The effect of CLOCK_PAUSE by the clock's state; none is WRONG_STATE (R78). -/
def State.pauseClock (s : State) (c : Nat) : Option State :=
  let k := s.clock c
  match k.state with
  | .idle => if k.waitBegin.isSome then some (s.dropBegin c) else none
  | .loaded =>
    let s1 := s.dropBegin c
    some (s1.setPres c { s1.presOf c with pending := none })
  | .running => some ((s.pauseRunning c .auctioneer).judgeClocks none)
  | .settling => some (if k.rehearsalRun then s else s.setPausePending c .auctioneer)
  | .held => some (s.setPausePending c .auctioneer)
  | .restartWait =>
    if k.waitBegin.isSome then some ((s.dropBegin c).pauseAt c (k.nextStart.getD 0) .auctioneer)
    else some (s.setPausePending c .auctioneer)
  | .paused => some (s.dropBegin c)

def State.clockPauseBlock (s : State) (c : Nat) : Answer :=
  clockGuard s c <|
    match s.pauseClock c with
    | none => .refuse s .wrongState
    | some s1 => .ok s1 []

/-- CLOCK_PAUSE (R78). -/
def execClockPause (p : Port) (t : Nat) (c : Nat) (s : State) : Host.Outcome State Fault Refusal :=
  .next (s.command p t (some .auc) fun q => q.clockPauseBlock c)

def State.clockResumeBlock (s : State) (c : Nat) : Answer :=
  clockGuard s c <|
    let k := s.clock c
    if k.state ≠ .paused then .refuse s .wrongState
    else if s.supplyOk = false then .refuse s .supply
    else if s.noReservation c then .refuse s .journalFull
    else if k.waitBegin.isSome then .ok s []
    else s.beginBlock c .resume

/-- CLOCK_RESUME (R80). -/
def execClockResume (p : Port) (t : Nat) (c : Nat) (s : State) : Host.Outcome State Fault Refusal :=
  .next (s.command p t (some .auc) fun q => q.clockResumeBlock c)

/-- The lot of a LOADED or PAUSED clock is closed without a further run (R82). -/
def State.skip (s : State) (c k : Nat) : State :=
  let s1 := ((s.closeLot k .skip).giveUpReservation c).dropBegin c
  let s2 := s1.letGo c
  (s2.setClock c { s2.clock c with cause := none, pausePending := false }).settle

def State.clockSkipBlock (s : State) (c : Nat) : Answer :=
  clockGuard s c <|
    let k := s.clock c
    if k.state = .loaded ∨ k.state = .paused then
      match k.lot with
      | none => .refuse s .wrongState
      | some l => .ok (s.skip c l) ((s.closeLot l .skip).closedReply l)
    else .refuse s .wrongState

/-- CLOCK_SKIP (R82). -/
def execClockSkip (p : Port) (t : Nat) (c : Nat) (s : State) : Host.Outcome State Fault Refusal :=
  .next (s.command p t (some .auc) fun q => q.clockSkipBlock c)

/-! ## Void (R112 to R114) -/

def State.voidLastBlock (s : State) (c : Nat) : Answer :=
  clockGuard s c <|
    match s.judgeVoid c with
    | .refused code => .refuse s code
    | .taken l r q => .ok (s.takeVoid c l r q) (u4 q.seq ++ u4 s.nextSeq ++ u2 q.buyer ++ u2 q.stems)

/-- VOID_LAST (R112, R113). -/
def execVoidLast (p : Port) (t : Nat) (c : Nat) (s : State) : Host.Outcome State Fault Refusal :=
  .next (s.command p t (some .auc) fun q => q.voidLastBlock c)

/-! ## Rehearsal (R84, R87, R88) -/

def State.rehearsalRunBlock (s : State) (c : Nat) : Answer :=
  clockGuard s c <|
    let k := s.clock c
    if k.rehearsal = false then .refuse s .mode
    else if k.state ≠ .idle ∨ k.waitBegin.isSome = true then .refuse s .wrongState
    else if s.supplyOk = false then .refuse s .supply
    else s.beginBlock c .rehearsal

/-- REHEARSAL_RUN (R84). -/
def execRehearsalRun (p : Port) (t : Nat) (c : Nat) (s : State) : Host.Outcome State Fault Refusal :=
  .next (s.command p t (some .auc) fun q => q.rehearsalRunBlock c)

def State.rehearsalClearBlock (s : State) (c : Nat) : Answer :=
  clockGuard s c <| .ok (s.setClock c { s.clock c with responses := [] }) []

/-- REHEARSAL_CLEAR (R88). -/
def execRehearsalClear (p : Port) (t : Nat) (c : Nat) (s : State) : Host.Outcome State Fault Refusal :=
  .next (s.command p t (some .auc) fun q => q.rehearsalClearBlock c)

/-- The desk numbers on a page of a response set: 60 a page, in the set's order (R87). -/
def reportPage (set : List Nat) (page : Nat) : List Nat := (set.drop (60 * page)).take 60

/-- The number of pages of a response set: 1 for an empty one (R87). -/
def reportPages (set : List Nat) : Nat := max 1 ((set.length + 59) / 60)

/-- A page of a response set with the set's count (R87). -/
def reportBytes (set : List Nat) (page : Nat) : List Byte := listBytes ((reportPage set page).map u2) ++ u2 set.length

/-- Page 0 with the page count; a transfer is opened for 2 pages or more (R87, R184). -/
def State.rehearsalReportBlock (s : State) (p : Port) (c : Nat) : Answer :=
  clockGuard s c <|
    let set := (s.clock c).responses
    let n := reportPages set
    .ok (if 2 ≤ n then s.openTransfer p (.report c) (some n) 1 else s) (reportBytes set 0 ++ u1 n)

/-- REHEARSAL_REPORT (R87). -/
def execRehearsalReport (p : Port) (t : Nat) (c : Nat) (s : State) : Host.Outcome State Fault Refusal :=
  .next (s.command p t (some .auc) fun q => q.rehearsalReportBlock p c)

end Sys2Proof.Machine
end

