-- ==== Sys2Proof/Machine/FinCommands.lean ====
section
/-! DEFINITION. Machine/FinCommands.lean: the commands of the FIN role and the account walk (R138 to R142, R154, R155). -/

namespace Sys2Proof.Machine

/-- A buyer that exists and whose account is ACTIVE or SUSPENDED; otherwise NO_RECORD or WRONG_STATE (R129). -/
def buyerGuard (s : State) (b : Nat) (a : Answer) : Answer :=
  if Config.accounts ≤ b then .refuse s .noRecord
  else if Billable (s.acct b) then a
  else .refuse s .wrongState

/-! ## Invoices (R138 to R141) -/

/-- The reply to an invoice close: the cents, the entry count, the sequences, the residue, the billed amount (R138). -/
def State.invoiceReply (s : State) (b : Nat) : List Byte :=
  let a := s.acct b
  let z := (s.closeInvoice b).acct b
  s6 (invoiceCents a.openAmt) ++ u4 a.entryCount ++ opt04 a.firstSeq ++ opt04 a.lastSeq ++ s6 z.openAmt ++
  s6 z.billedAmt

def State.invoiceCloseBlock (s : State) (b : Nat) : Answer :=
  buyerGuard s b <| .ok (s.closeInvoice b) (s.invoiceReply b)

/-- INVOICE_CLOSE (R138). -/
def execInvoiceClose (p : Port) (t : Nat) (b : Nat) (s : State) : Host.Outcome State Fault Refusal :=
  .next (s.command p t (some .fin) fun q => q.invoiceCloseBlock b)

/-- INVOICE_CLOSE_ALL (R140): the walk begins at account 0. -/
def execInvoiceCloseAll (p : Port) (t : Nat) (s : State) : Host.Outcome State Fault Refusal :=
  .next (s.command p t (some .fin) fun q => .ok (q.openTransfer p .closeAll none 0) [])

/-- The walk closes an account that is ACTIVE or SUSPENDED with an open amount that is not 0 (R140). -/
def walkCloses (a : Account) : Bool := Billable a && a.openAmt != 0

/-- The walk has judged account `f.next`: it goes on to the next, or ends complete after account 1023 and FIN is given
INVOICE_DONE (R140). -/
def State.walkOn (s : State) (p : Port) (f : Xfer) (closed : Bool) : State :=
  let f1 := { f with done := if closed then f.done + 1 else f.done, next := f.next + 1 }
  if f1.next < Config.accounts then s.setPort p { s.port p with xfer := some f1 }
  else (s.completeTransfer p f1).raise .fin .invoiceDone (.number f1.done)

/-- The walk of a FIN port's open transfer judges its next account (R140). -/
def State.walkStep (s : State) : State :=
  match (s.port .fin).xfer with
  | none => s
  | some f =>
    match f.kind with
    | .closeAll =>
      if walkCloses (s.acct f.next) then (s.closeInvoice f.next).walkOn .fin f true else s.walkOn .fin f false
    | .lotWrite | .layoutWrite | .report _ => s

/-- INVOICE_WALK_STEP (R140). -/
def execInvoiceWalkStep (s : State) : Host.Outcome State Fault Refusal :=
  .next (if s.isOn then s.walkStep else s)

/-! ## Payments (R142) -/

/-- A payment of `cents` is booked (R142). A payment of 0 cents changes nothing. -/
def State.pay (s : State) (b cents : Nat) : State :=
  let a := s.acct b
  if cents = 0 then s
  else s.book b { a with billedAmt := a.billedAmt - appliedMils a cents } false false true

def State.paymentPostBlock (s : State) (b given : Nat) : Answer :=
  buyerGuard s b <|
    let cents := min given Config.paymentLimit
    let applied := appliedMils (s.acct b) cents / 10
    .ok (s.pay b cents)
      (u6 cents ++ s6 applied ++ s6 (cents - applied) ++ s6 ((s.pay b cents).acct b).billedAmt)

/-- PAYMENT_POST (R142). -/
def execPaymentPost (p : Port) (t : Nat) (b given : Nat) (s : State) : Host.Outcome State Fault Refusal :=
  .next (s.command p t (some .fin) fun q => q.paymentPostBlock b given)

/-! ## The journal (R154, R155) -/

/-- The reply to JOURNAL_READ: the counts and sequences, the clamped count, and the entry, if one is returned (R154,
R197). -/
def State.journalReadBlock (s : State) (seq count : Nat) : Answer :=
  let v := s.values
  let head := v.bytes ++ u1 (min count 1)
  if count = 0 then .ok s head
  else if v.used = 0 ∨ v.ahead seq = true then { code := .empty, fields := head, state := s }
  else if v.holds seq then
    match s.place (v.placeOf seq) with
    | some e => .ok s (head ++ entryBytes e)
    | none => .ok s head
  else { code := .noRecord, fields := head, state := s }

/-- JOURNAL_READ (R154). -/
def execJournalRead (p : Port) (t : Nat) (seq count : Nat) (s : State) : Host.Outcome State Fault Refusal :=
  .next (s.command p t (some .fin) fun q => q.journalReadBlock seq count)

/-- The value of n that JOURNAL_RELEASE uses: one ahead of the newest is clamped to it (R155). With no newest it is n as
given (log entry 45). -/
def releaseValue (v : JournalValues) (n : Nat) : Nat :=
  match v.newest with
  | none => n
  | some w => if v.ahead n then w else n

def State.journalReleaseBlock (s : State) (n : Nat) : Answer :=
  let m := releaseValue s.values n
  let k := s.values.freedBy m
  let s1 := s.releaseOldest k
  .ok s1 (u2 k ++ u4 m ++ s1.values.bytes)

/-- JOURNAL_RELEASE (R155). -/
def execJournalRelease (p : Port) (t : Nat) (n : Nat) (s : State) : Host.Outcome State Fault Refusal :=
  .next (s.command p t (some .fin) fun q => q.journalReleaseBlock n)

end Sys2Proof.Machine
end

