-- ==== Sys2Proof/Machine/Layout.lean ====
section
/-! DEFINITION. Machine/Layout.lean: one segment record of LAYOUT_WRITE (R18, R21, R196). -/

namespace Sys2Proof.Machine

/-- Some train is MOVING or STALLED (R20, R21). -/
def State.underWay (s : State) : Bool :=
  s.yard.trains.any fun c => c.2.state == .moving || c.2.state == .stalled

/-- The kind of a segment from its code and parameter; none for a kind beyond RETURN or a parameter out of range
(R197). -/
def segKind (kind param : Nat) : Option SegKind :=
  match kind with
  | 0 => some .store
  | 1 => some .track
  | 2 => some .stage
  | 3 => if param < Config.clocks then some (.present param) else none
  | 4 => if param < 32 then some (.bay param) else none
  | 5 => some .return
  | _ => none

/-- The code and the parameter of a kind (R196). -/
def SegKind.code : SegKind → Nat × Nat
  | .store => (0, 0)
  | .track => (1, 0)
  | .stage => (2, 0)
  | .present c => (3, c)
  | .bay b => (4, b)
  | .return => (5, 0)

/-- A successor list cleaned of repeats after their first appearance (R21). -/
def keepFirst : List Nat → List Nat
  | [] => []
  | g :: t => g :: (keepFirst t).filter (· ≠ g)

/-- The successor list of segment `g` as stored (R21). -/
def cleanSucc (g : Nat) (l : List Nat) : List Nat := (keepFirst l).filter (· ≠ g)

/-- The layout that a record gives, cleaned and clamped; none when one of its codes is out of range (R21, R197). -/
def SegLayout.ofRecord (r : SegFields) : Option SegLayout :=
  match segKind r.kind r.param with
  | none => none
  | some k =>
    if r.group < 4 ∧ r.edge < 2 then
      some { kind := k, succ := cleanSucc r.segment r.succ, group := r.group, rising := r.edge == 0
             filter := clamp 0 255 r.filter }
    else none

/-- The record of a segment as stored (R21). -/
def SegLayout.record (g : Nat) (l : SegLayout) : SegFields :=
  { segment := g, kind := (SegKind.code l.kind).1, param := (SegKind.code l.kind).2, succ := l.succ, group := l.group
    edge := if l.rising then 0 else 1, filter := l.filter }

/-- The layout of a segment of kind PRESENT(c) other than `g` exists (R21 step 3). -/
def State.presentElsewhere (s : State) (g : Nat) (k : SegKind) : Bool :=
  match k with
  | .present c =>
    s.yard.segs.any fun x => x.1 != g && match x.2.layout with
      | none => false
      | some l => l.kind == .present c
  | .store | .track | .stage | .bay _ | .return => false

/-- An OCCUPIED segment keeps its kind and its entry edge (R21 step 4). -/
def keepsOccupied (x : Segment) (l : SegLayout) : Bool :=
  match x.state with
  | .occupied _ =>
    match x.layout with
    | none => true
    | some m => m.kind == l.kind && m.rising == l.rising
  | .free | .reserved _ | .fault _ => true

/-- The record is written; a segment not defined before takes the sensed level as its filtered level (R21 step 6). -/
def State.defineSegment (s : State) (g : Nat) (l : SegLayout) : State :=
  let x := s.seg g
  s.setSeg g { x with layout := some l, level := if x.layout.isSome then x.level else s.sensed g }

/-- The queued moves whose route no longer follows the successor lists (R21 step 7), oldest first (log entry 48). -/
def State.brokenMoves (s : State) : List Nat := s.yard.moves.filter fun t => !s.follows (s.route t)

/-- A queued move is dropped, and YRD is given MOVE_STALLED (R21 step 7). -/
def State.dropMove (s : State) (t : Nat) : State := (s.unqueue t).raise .yrd .moveStalled (.number t)

/-- A refused layout record carries the segment it refused (R197). -/
def refuseSegment (s : State) (g : Nat) (code : ReplyCode) : Answer := { code := code, fields := u2 g, state := s }

/-- A layout record that is taken: the reply is the record as stored and the number of moves dropped (R21). Several broken
moves are dropped oldest first (log entry 48). -/
def State.takeSegment (s : State) (g : Nat) (l : SegLayout) : Answer :=
  let s1 := s.defineSegment g l
  let broken := s1.brokenMoves
  let s2 := (State.each (fun t q => q.dropMove t) broken s1).reexamine
  .ok s2 ((l.record g).bytes ++ u1 broken.length)

/-- One layout record, judged and applied on its own (R21; the place of the checks of codes: log entry 20). -/
def State.writeSegment (s : State) (r : SegFields) : Answer :=
  let g := r.segment
  if s.underWay then refuseSegment s g .wrongState
  else if Config.segments ≤ g ∨ r.succ.any (Config.segments ≤ ·) = true then refuseSegment s g .noRecord
  else
    match SegLayout.ofRecord r with
    | none => refuseSegment s g .wrongState
    | some l =>
      if s.presentElsewhere g l.kind then refuseSegment s g .wrongState
      else if keepsOccupied (s.seg g) l = false then refuseSegment s g .wrongState
      else s.takeSegment g l

end Sys2Proof.Machine
end

