-- ==== Sys2Proof/Machine/SupCommands.lean ====
section
/-! DEFINITION. Machine/SupCommands.lean: the commands of the SUP role (R10 to R12, R20, R40, R132 to R134, R146, R156,
R194, R195). -/

namespace Sys2Proof.Machine

/-! ## Lots (R10 to R12) -/

/-- The values of a lot record, clamped (R10). -/
def clampLot (r : LotFields) : LotFields :=
  let total := clamp 1 60000 r.total
  { r with
    total := total, unit := clamp 1 total r.unit, minTake := clamp 1 99 r.minTake, reserve := clamp 1 99999 r.reserve
    startPrice := r.startPrice.map (clamp 1 99999), reofferLimit := clamp 0 3 r.reofferLimit }

/-- The lot that a clamped record writes (R10 step 5). -/
def registeredLot (r : LotFields) : LotRec :=
  { state := .registered, catalogue := r.catalogue, total := r.total, remaining := r.total, unit := r.unit
    minTake := r.minTake, reserve := r.reserve, startPrice := r.startPrice, reofferLimit := r.reofferLimit
    runouts := 0, purchases := [], train := none, clock := none, lastSeq := none }

/-- The slot may be written: FREE, or REGISTERED with an empty purchase list (R10 steps 2 and 3). -/
def writableSlot : Option LotRec → Bool
  | none => true
  | some q => q.state == .registered && q.purchases.isEmpty

/-- One lot record, judged and applied on its own: the reply carries the values stored, or the slot it refused (R10,
R197). -/
def State.writeLot (s : State) (r : LotFields) : Answer :=
  if Config.lotSlots ≤ r.slot then { code := .noRecord, fields := u2 r.slot, state := s }
  else if writableSlot (s.lot r.slot) then
    let q := clampLot r
    .ok (s.setLot q.slot (some (registeredLot q))) q.bytes
  else { code := .wrongState, fields := u2 r.slot, state := s }

/-- LOT_WRITE as judged by its block: the first record, and a transfer for a count of 2 or more (R184, R185). The count
stands ahead of the values stored, and a refused first record is answered with its slot alone (log entry 36). -/
def State.lotWriteBlock (s : State) (p : Port) (count : Nat) (r : LotFields) : Answer :=
  let n := clamp 1 Config.lotSlots count
  let a := s.writeLot r
  { a with
    fields := if a.code = .ok then u2 n ++ a.fields else a.fields
    state := if 2 ≤ n then a.state.openTransfer p .lotWrite (some n) 1 else a.state }

/-- LOT_WRITE (R10, R184). -/
def execLotWrite (p : Port) (t : Nat) (count : Nat) (r : LotFields) (s : State) :
    Host.Outcome State Fault Refusal :=
  .next (s.command p t (some .sup) fun q => q.lotWriteBlock p count r)

/-- A withdrawal of an open lot that is not on a clock (R11). -/
def State.withdraw (s : State) (k : Nat) (r : LotRec) : State :=
  let s1 := s.closeLot k .withdraw
  match r.state, r.clock with
  | .queued, some c => (s1.leaveQueue c k).settle
  | .announced, some c => (s1.leaveQueue c k).settle
  | _, _ => s1

def State.lotWithdrawBlock (s : State) (k : Nat) : Answer :=
  if Config.lotSlots ≤ k then .refuse s .noRecord
  else
    match s.lot k with
    | none => .refuse s .wrongState
    | some r =>
      if r.state.closed ∨ r.state = .onClock then .refuse s .wrongState
      else .ok (s.withdraw k r) ((s.closeLot k .withdraw).closedReply k)

/-- LOT_WITHDRAW (R11). -/
def execLotWithdraw (p : Port) (t : Nat) (k : Nat) (s : State) : Host.Outcome State Fault Refusal :=
  .next (s.command p t (some .sup) fun q => q.lotWithdrawBlock k)

/-- The journal still holds the lot's last journal sequence (R12, R13). -/
def State.journalled (s : State) (r : LotRec) : Bool :=
  match r.lastSeq with
  | none => false
  | some q => s.values.holds q

def State.lotReleaseBlock (s : State) (k : Nat) : Answer :=
  if Config.lotSlots ≤ k then .refuse s .noRecord
  else
    match s.lot k with
    | none => .refuse s .wrongState
    | some r =>
      if r.state.closed ∧ r.train = none ∧ s.journalled r = false then .ok (s.setLot k none) []
      else .refuse s .wrongState

/-- LOT_RELEASE (R12). -/
def execLotRelease (p : Port) (t : Nat) (k : Nat) (s : State) : Host.Outcome State Fault Refusal :=
  .next (s.command p t (some .sup) fun q => q.lotReleaseBlock k)

/-! ## Layout (R20, R31, R40) -/

/-- Every entry of a launch window whose age has reached the window length is dropped (R31). -/
def youngLaunches (seconds : Nat) (w : List Launch) : List Launch := w.filter fun e => e.age < seconds * 1000

/-- The two whole-yard settings are stored; a shorter window length is applied at once (R20, R31). -/
def State.setYardTimes (s : State) (window transit : Nat) : State :=
  { s with yard := { s.yard with
      windowLength := window, transitTimeout := transit
      windows := Tab.mapAll [] (fun _ w => youngLaunches window w) s.yard.windows } }

def State.layoutWriteBlock (s : State) (p : Port) (window transit count : Nat) : Answer :=
  if s.underWay then .refuse s .wrongState
  else
    let w := clamp 5 120 window
    let x := clamp 1 60 transit
    let n := clamp 1 128 count
    .ok ((s.setYardTimes w x).reexamine.openTransfer p .layoutWrite (some n) 0) (u1 w ++ u1 x ++ u1 n)

/-- LAYOUT_WRITE (R20, R184). -/
def execLayoutWrite (p : Port) (t : Nat) (window transit count : Nat) (s : State) :
    Host.Outcome State Fault Refusal :=
  .next (s.command p t (some .sup) fun q => q.layoutWriteBlock p window transit count)

def State.segmentClearBlock (s : State) (g : Nat) : Answer :=
  if Config.segments ≤ g then .refuse s .noRecord
  else
    match (s.seg g).state with
    | .fault reservation =>
      if (s.seg g).vacant then
        let q := match reservation with
          | none => SegState.free
          | some t => SegState.reserved t
        .ok (s.setSegState g q).reexamine []
      else .refuse s .wrongState
    | .free | .reserved _ | .occupied _ => .refuse s .wrongState

/-- SEGMENT_CLEAR (R40). -/
def execSegmentClear (p : Port) (t : Nat) (g : Nat) (s : State) : Host.Outcome State Fault Refusal :=
  .next (s.command p t (some .sup) fun q => q.segmentClearBlock g)

/-! ## Accounts, fee classes, desks (R132 to R134, R146) -/

/-- A badge is held by another account that is not VACANT (R133 check 4). -/
def State.badgeElsewhere (s : State) (b badge : Nat) : Bool :=
  s.accounts.any fun c => c.1 != b && c.2.acct.state != .vacant && c.2.acct.badge == some badge

/-- A write to VACANT (R134): the account is retired and a bound desk is unbound. -/
def State.retire (s : State) (b : Nat) : State :=
  let s1 := match (s.acct b).desk with
    | none => s
    | some d => s.setDesk d { s.desk d with buyer := none }
  s1.setAcct b Account.vacant

/-- The account that a write to ACTIVE or SUSPENDED leaves, before OVER is judged (R134). -/
def writtenAccount (a : Account) (state : AcctState) (r : AccountFields) : Account :=
  let a1 := { a with
    state := state, badge := some r.badge, limit := clampInt 0 Config.amountLimit r.limit
    feeClass := clamp 0 3 r.feeClass, bay := r.bay.map (clamp 0 31) }
  match r.amounts with
  | none => a1
  | some (opened, billed) =>
    { a1 with
      openAmt := saturate opened, billedAmt := saturate billed, saturated := false, entryCount := 0
      firstSeq := none, lastSeq := none }

/-- The checks of R133 for a record of state VACANT. The OK for an account that is VACANT already returns its fields as a
write does (log entry 57). -/
def State.vacateBlock (s : State) (b : Nat) : Answer :=
  let a := s.acct b
  if a.state = .vacant then .ok s (accountFieldBytes a)
  else if a.state ≠ .damaged ∧ (0 < a.heldAmt ∨ a.openAmt ≠ 0 ∨ a.billedAmt ≠ 0) then .refuse s .wrongState
  else
    let s1 := s.retire b
    .ok s1 (accountFieldBytes (s1.acct b))

/-- The checks of R133 for a record of state ACTIVE or SUSPENDED, and the write of R134. -/
def State.keepBlock (s : State) (b : Nat) (state : AcctState) (r : AccountFields) : Answer :=
  let a := s.acct b
  if r.badge = 0 then .refuse s .noRecord
  else if s.badgeElsewhere b r.badge then .refuse s .wrongState
  else if 0 < a.heldAmt ∧ (a.badge ≠ some r.badge ∨ r.amounts.isSome = true) then .refuse s .wrongState
  else if a.state = .damaged ∧ r.amounts = none then .refuse s .wrongState
  else
    let s1 := s.book b (writtenAccount a state r) false true true
    .ok s1 (accountFieldBytes (s1.acct b))

def State.accountWriteBlock (s : State) (b : Nat) (r : AccountFields) : Answer :=
  if Config.accounts ≤ b then .refuse s .noRecord
  else
    match r.state with
    | 0 => s.vacateBlock b
    | 1 => s.keepBlock b .active r
    | 2 => s.keepBlock b .suspended r
    | _ => .refuse s .wrongState

/-- ACCOUNT_WRITE (R133, R134). -/
def execAccountWrite (p : Port) (t : Nat) (b : Nat) (r : AccountFields) (s : State) :
    Host.Outcome State Fault Refusal :=
  .next (s.command p t (some .sup) fun q => q.accountWriteBlock b r)

/-- The values of a fee class, clamped (R132). -/
def clampFee (stemFee percentage minimum : Nat) : FeeClass :=
  { stemFee := clamp 0 999 stemFee, percentage := clamp 0 2000 percentage, minimum := clamp 0 100000 minimum }

def FeeClass.bytes (f : FeeClass) : List Byte := u2 f.stemFee ++ u2 f.percentage ++ u3 f.minimum

def State.feeClassWriteBlock (s : State) (k stemFee percentage minimum : Nat) : Answer :=
  if 4 ≤ k then .refuse s .noRecord
  else
    let f := clampFee stemFee percentage minimum
    .ok { s with fees := Tab.set FeeClass.zero s.fees k f } f.bytes

/-- FEE_CLASS_WRITE (R132). -/
def execFeeClassWrite (p : Port) (t : Nat) (k stemFee percentage minimum : Nat) (s : State) :
    Host.Outcome State Fault Refusal :=
  .next (s.command p t (some .sup) fun q => q.feeClassWriteBlock k stemFee percentage minimum)

/-- The desk number lies in 1 to 511 (R143). -/
def deskExists (d : Nat) : Bool := 1 ≤ d && d ≤ Config.desks

/-- The checks of R146. The OK for a desk that is not bound carries an absent buyer, FFFFh (log entry 58). -/
def State.deskUnbindBlock (s : State) (d : Nat) : Answer :=
  if deskExists d = false then .refuse s .noRecord
  else if s.isWinner d then .refuse s .winner
  else
    match (s.desk d).buyer with
    | none => .ok s (optF2 none)
    | some b => .ok (s.unbind d b) (optF2 (some b))

/-- DESK_UNBIND (R146). -/
def execDeskUnbind (p : Port) (t : Nat) (d : Nat) (s : State) : Host.Outcome State Fault Refusal :=
  .next (s.command p t (some .sup) fun q => q.deskUnbindBlock d)

/-! ## Journal and time (R156, R194) -/

/-- A slot after JOURNAL_FORMAT: the last journal sequence is absent (R13). -/
def LotCell.format (c : LotCell) : LotCell := { lot := c.lot.map fun r => { r with lastSeq := none }, found := none }

/-- An account after JOURNAL_FORMAT: the first and last sequence are absent (R137). -/
def AcctCell.format (c : AcctCell) : AcctCell := { acct := { c.acct with firstSeq := none, lastSeq := none }, found := none }

/-- The numbering restarts, in the journal, every lot and every account (R156). -/
def State.format (s : State) : State :=
  let s1 := s.setValues { s.values with newest := none }
  { s1 with
    lots := Tab.mapAll LotCell.free (fun _ c => LotCell.format c) s1.lots
    accounts := Tab.mapAll AcctCell.vacant (fun _ c => AcctCell.format c) s1.accounts }

def State.journalFormatBlock (s : State) : Answer :=
  if s.values.used ≠ 0 then .refuse s .wrongState else .ok s.format []

/-- JOURNAL_FORMAT (R156). -/
def execJournalFormat (p : Port) (t : Nat) (s : State) : Host.Outcome State Fault Refusal :=
  .next (s.command p t (some .sup) fun q => q.journalFormatBlock)

/-- The floor time is written (R194). -/
def State.setTime (s : State) (value : Nat) : State := { s with floorTime := value % Config.floorTimeSpan }

/-- TIME_SET (R194). -/
def execTimeSet (p : Port) (t : Nat) (value : Nat) (s : State) : Host.Outcome State Fault Refusal :=
  .next (s.command p t (some .sup) fun q => .ok (q.setTime value) (u4 (value % Config.floorTimeSpan)))

/-! ## Floor reset (R17, R46, R63, R91, R148, R164, R179, R195) -/

/-- A clock context after a floor reset: the settings, the mode, the run tag and the response set are kept (R91). -/
def Clock.floorReset (k : Clock) : Clock :=
  { Clock.reset with set := k.set, rehearsal := k.rehearsal, tag := k.tag, responses := k.responses }

/-- A clock is brought to IDLE: its sale is abandoned and its hold released, its reservation is given up (R91, R148). -/
def State.restClock (c : Nat) (s : State) : State :=
  let k := s.clock c
  let s1 : State := match k.winner with
    | none => s
    | some w => if k.state = .settling ∨ k.state = .held then s.releaseWinner w else s
  let s2 := s1.giveUpReservation c
  s2.setClock c (s2.clock c).floorReset

/-- A lot record after a floor reset (R17). -/
def lotAtFloorReset (r : LotRec) : LotRec :=
  match r.state with
  | .onTrain | .queued | .announced | .onClock => { r with state := .onTrain, clock := none }
  | .registered | .soldOut | .partSold | .unsold | .withdrawn => r

def LotCell.floorReset (c : LotCell) : LotCell :=
  match c.lot with
  | none => c
  | some r => if lotAtFloorReset r = r then c else { lot := some (lotAtFloorReset r), found := none }

/-- A train at a floor reset (R46): one under way is halted, a queued move is removed. -/
def State.restTrain (t : Nat) (s : State) : State :=
  match (s.train t).state with
  | .moving => s.haltTrain t
  | .stalled => s.haltTrain t
  | .queued => s.unqueue t
  | .empty | .stored | .stopped | .presenting | .cleared | .atBay => s

/-- A PRESENTING train is named to its clock again (R46, R63). -/
def State.renameTrain (t : Nat) (s : State) : State :=
  match (s.train t).state, (s.train t).clock with
  | .presenting, some c => s.nameTrain c t
  | _, _ => s

/-- The desk-line queues are emptied; a frame on the line is sent to its end and not resent (R179). -/
def State.restLine (s : State) : State :=
  { s with line := { s.line with
      inbound := [], outbound := [], waits := [], sending := s.line.sending.map fun f => { f with orphan := true } } }

/-- The yard, the lots and the presentation unit are brought to rest (R17, R46, R63). -/
def State.restYard (s : State) : State :=
  let s1 := State.each State.restTrain s.trainNumbers s
  { s1 with
    lots := Tab.mapAll LotCell.free (fun _ c => c.floorReset) s1.lots
    yard := { s1.yard with moves := [], windows := [] }
    pres := [], rotation := 0 }

/-- Every block takes its floor-reset values (R195), which raises no notice but COMMAND_ABORTED; then the presentation
unit announces, loads and starts afresh, with the notices of R55 and R58 (R63, log entry 15). A run that the closing
settle begins takes its reservation and may give JOURNAL_LOW (R153, log entry 52). The open transfers are aborted in the
order AUC, YRD, FIN (log entry 60). -/
def State.floorReset (s : State) : State :=
  let s0 := ((s.abortTransfer .auc).abortTransfer .yrd).abortTransfer .fin
  let s1 := (State.each State.restClock clockNumbers s0).restYard.restLine
  let s2 := State.each State.renameTrain s1.trainNumbers s1
  s2.settle

/-- FLOOR_RESET (R195). -/
def execFloorReset (p : Port) (t : Nat) (s : State) : Host.Outcome State Fault Refusal :=
  .next (s.command p t (some .sup) fun q => .ok q.floorReset [])

end Sys2Proof.Machine
end

