-- ==== Sys2Proof/Machine/YrdCommands.lean ====
section
/-! DEFINITION. Machine/YrdCommands.lean: the commands of the YRD role (R25 to R27, R38, R39, R43). -/

namespace Sys2Proof.Machine

/-- The train number lies in 0 to 63; a command that names another is refused with NO_RECORD (R24). -/
def trainGuard (s : State) (t : Nat) (a : Answer) : Answer := if t < Config.trains then a else .refuse s .noRecord

/-! ## Forming and disbanding (R25, R26) -/

/-- The segment may hold a new train: FREE, of kind STORE or STAGE (R25 check 3). -/
def Segment.storage (x : Segment) : Bool :=
  x.state == .free &&
  match x.layout with
  | none => false
  | some l => l.kind == .store || l.kind == .stage

/-- A list names nothing twice. -/
def noRepeats : List Nat → Bool
  | [] => true
  | g :: t => !t.contains g && noRepeats t

/-- A new train stands on the segment with its lots ON_TRAIN (R25). -/
def State.formTrain (s : State) (t g : Nat) (lots : List Nat) : State :=
  let s1 := State.each (fun k q => q.updLot k fun r => { r with state := .onTrain, train := some t }) lots s
  (s1.setSegState g (.occupied t)).setTrain t
    { Train.empty with state := .stored, lots := lots, head := some g, occupied := [g] }

def State.trainFormBlock (s : State) (t g : Nat) (lots : List Nat) : Answer :=
  if Config.trains ≤ t ∨ Config.segments ≤ g ∨ lots.any (Config.lotSlots ≤ ·) = true then .refuse s .noRecord
  else if (s.train t).state ≠ .empty then .refuse s .wrongState
  else if (s.seg g).storage = false then .refuse s .wrongState
  else if lots.isEmpty = true ∨ 12 < lots.length ∨ noRepeats lots = false then .refuse s .wrongState
  else
    match lots.find? fun k => !s.lotIs k .registered with
    | some k => { code := .wrongState, fields := u2 k, state := s }
    | none => .ok (s.formTrain t g lots) []

/-- TRAIN_FORM (R25). -/
def execTrainForm (p : Port) (tag : Nat) (t g : Nat) (lots : List Nat) (s : State) :
    Host.Outcome State Fault Refusal :=
  .next (s.command p tag (some .yrd) fun q => q.trainFormBlock t g lots)

/-- The train becomes EMPTY, its lots lose their train field and its segment is FREE (R26). -/
def State.disband (s : State) (t : Nat) : State :=
  let r := s.train t
  let s1 := State.each (fun k q => q.updLot k fun x => { x with train := none }) r.lots s
  let s2 := match r.head with
    | none => s1
    | some g => s1.setSegState g .free
  (s2.setTrain t Train.empty).reexamine

def State.trainDisbandBlock (s : State) (t : Nat) : Answer :=
  trainGuard s t <|
    let r := s.train t
    if r.state = .stored ∨ r.state = .atBay then
      if s.allClosed t then .ok (s.disband t) [] else .refuse s .lotsOpen
    else .refuse s .wrongState

/-- TRAIN_DISBAND (R26). -/
def execTrainDisband (p : Port) (tag : Nat) (t : Nat) (s : State) : Host.Outcome State Fault Refusal :=
  .next (s.command p tag (some .yrd) fun q => q.trainDisbandBlock t)

/-! ## Moves (R27, R38, R39) -/

/-- The route is valid for the train: 2 to 16 segments, from its head, hop by hop, with none twice (R27 check 4), and
every one of them defined, since an undefined segment can be in no route (R21, log entry 47). -/
def State.routeValid (s : State) (t : Nat) (route : List Nat) : Bool :=
  2 ≤ route.length && route.length ≤ 16 && (s.train t).head == route.head? && s.follows route && noRepeats route &&
  route.all fun g => (s.seg g).layout.isSome

/-- The prior state that a train keeps when its move is queued (R24, R27); none in a state that queues no move. -/
def TrainState.asPrior : TrainState → Option PriorState
  | .stored => some .stored
  | .stopped => some .stopped
  | .cleared => some .cleared
  | .atBay => some .atBay
  | .empty | .queued | .moving | .stalled | .presenting => none

/-- The move joins the tail of the queue and the train becomes QUEUED (R27). A train that was CLEARED keeps its presenting
clock, until the launch (R42, log entry 41). -/
def State.queueMove (s : State) (t : Nat) (route : List Nat) : State :=
  let r := s.train t
  (s.setMoves (s.yard.moves ++ [t])).setTrain t
    { r with state := .queued, move := some { route := route, next := 1 }, prior := r.state.asPrior }

def State.trainMoveBlock (s : State) (t : Nat) (route : List Nat) : Answer :=
  if Config.trains ≤ t ∨ route.any (Config.segments ≤ ·) = true then .refuse s .noRecord
  else
    match (s.train t).state with
    | .presenting => .refuse s .lotsOpen
    | .empty | .queued | .moving | .stalled => .refuse s .wrongState
    | .stored | .stopped | .cleared | .atBay =>
      if s.routeValid t route = false then .refuse s .routeInvalid
      else if Config.moveQueueSize ≤ s.yard.moves.length then .refuse s .full
      else .ok (s.queueMove t route).reexamine (u1 (s.yard.moves.length + 1))

/-- TRAIN_MOVE (R27). -/
def execTrainMove (p : Port) (tag : Nat) (t : Nat) (route : List Nat) (s : State) :
    Host.Outcome State Fault Refusal :=
  .next (s.command p tag (some .yrd) fun q => q.trainMoveBlock t route)

def State.moveRetryBlock (s : State) (t : Nat) : Answer :=
  trainGuard s t <|
    let r := s.train t
    if r.state = .stalled ∧ r.cause = some .transit then
      .ok (s.setTrain t { r with state := .moving, cause := none, timer := some (s.yard.transitTimeout * 1000) }) []
    else .refuse s .wrongState

/-- MOVE_RETRY (R38). -/
def execMoveRetry (p : Port) (tag : Nat) (t : Nat) (s : State) : Host.Outcome State Fault Refusal :=
  .next (s.command p tag (some .yrd) fun q => q.moveRetryBlock t)

def State.moveCancelBlock (s : State) (t : Nat) : Answer :=
  trainGuard s t <|
    let q := (s.train t).state
    match q with
    | .queued => .ok (s.unqueue t) (u1 q.code)
    | .moving => .ok (s.haltTrain t).reexamine (u1 q.code)
    | .stalled => .ok (s.haltTrain t).reexamine (u1 q.code)
    | .empty | .stored | .stopped | .presenting | .cleared | .atBay => .refuse s .wrongState

/-- MOVE_CANCEL (R39). -/
def execMoveCancel (p : Port) (tag : Nat) (t : Nat) (s : State) : Host.Outcome State Fault Refusal :=
  .next (s.command p tag (some .yrd) fun q => q.moveCancelBlock t)

/-! ## The distribution list (R43) -/

/-- An entry of the distribution list; a RETURN entry has no bay and no buyer (R196). -/
structure DistEntry where
  bay : Option Nat
  lot : Nat
  buyer : Option Nat
  stems : Nat
deriving DecidableEq, Repr

/-- The bay of a buyer's deliveries (R43). -/
def Account.deliveryBay (a : Account) : Nat :=
  match a.bay with
  | none => 0
  | some b => if a.state = .damaged ∨ 32 ≤ b then 0 else b

/-- The purchases of a slot's lot. -/
def State.purchasesOf (s : State) (k : Nat) : List Purchase :=
  match s.lot k with
  | none => []
  | some r => r.purchases

/-- The delivery entries of a lot, in the order of its purchase list (R43). -/
def State.deliveries (s : State) (k : Nat) : List DistEntry :=
  (s.purchasesOf k).map fun p =>
    { bay := some (Account.deliveryBay (s.acct p.buyer)), lot := k, buyer := some p.buyer, stems := p.stems }

/-- The RETURN entry of a lot with stems left (R43). -/
def State.returns (s : State) (k : Nat) : List DistEntry :=
  match s.lot k with
  | none => []
  | some r => if 0 < r.remaining then [{ bay := none, lot := k, buyer := none, stems := r.remaining }] else []

/-- The distribution list of a train: deliveries by ascending bay, then train order, then purchase order; RETURN entries
after them in train order (R43). -/
def State.distList (s : State) (t : Nat) : List DistEntry :=
  let lots := (s.train t).lots
  let all := lots.flatMap s.deliveries
  ((List.range 32).flatMap fun b => all.filter fun e => e.bay == some b) ++ lots.flatMap s.returns

def DistEntry.bytes (e : DistEntry) : List Byte := optF1 e.bay ++ u2 e.lot ++ optF2 e.buyer ++ u2 e.stems

/-- A page of 15 entries with the total and the page number (R43). -/
def State.distPage (s : State) (t page : Nat) : List Byte :=
  let l := s.distList t
  u1 l.length ++ u1 page ++ listBytes (((l.drop (15 * page)).take 15).map DistEntry.bytes)

def State.distReadBlock (s : State) (t page : Nat) : Answer :=
  trainGuard s t <|
    let q := (s.train t).state
    if q = .cleared ∨ q = .atBay then .ok s (s.distPage t page) else .refuse s .wrongState

/-- DIST_READ (R43). -/
def execDistRead (p : Port) (tag : Nat) (t page : Nat) (s : State) : Host.Outcome State Fault Refusal :=
  .next (s.command p tag (some .yrd) fun q => q.distReadBlock t page)

end Sys2Proof.Machine
end

