-- ==== Sys2Proof/Machine/ReadCommands.lean ====
section
/-! DEFINITION. Machine/ReadCommands.lean: the commands of every port: the reads, the notices, DATA and an undefined code
(R14, R24, R61, R89, R135, R143, R182, R185, R187, R189, R190). The order of fields: log entry 9. -/

namespace Sys2Proof.Machine

/-! ## LOT_READ, TRAIN_READ (R14, R24) -/

def State.lotReadBlock (s : State) (k page : Nat) : Answer :=
  if Config.lotSlots ≤ k then .refuse s .noRecord
  else .ok s (lotPage (Tab.get LotCell.free s.lots k) page)

/-- LOT_READ (R14). -/
def execLotRead (p : Port) (t : Nat) (k page : Nat) (s : State) : Host.Outcome State Fault Refusal :=
  .next (s.command p t none fun q => q.lotReadBlock k page)

/-- A move's place in the move queue, 1 for the oldest; absent when it waits in none (R28). -/
def State.placeInQueue (s : State) (t : Nat) : Option Nat :=
  (s.yard.moves.findIdx? (· = t)).map (· + 1)

/-- The fields of a train, in the order of R24, its move with its place in the queue (R28). The occupied set is listed in
the order of entry (log entry 38), and a QUEUED train that was CLEARED shows its presenting clock (log entry 41). -/
def State.trainBytes (s : State) (t : Nat) : List Byte :=
  let r := s.train t
  u1 r.state.code ++ listBytes (r.lots.map u2) ++ optF2 r.head ++ listBytes (r.occupied.map u2) ++
  listBytes ((s.route t).map u2) ++ opt0 1 (r.move.map (·.next)) ++ opt0 1 (s.placeInQueue t) ++
  optF1 (r.prior.map (·.code)) ++ optF1 (r.cause.map (·.code)) ++ optF1 r.clock

/-- TRAIN_READ (R24). -/
def execTrainRead (p : Port) (tag : Nat) (t : Nat) (s : State) : Host.Outcome State Fault Refusal :=
  .next (s.command p tag none fun q => trainGuard q t <| .ok q (q.trainBytes t))

/-! ## CLOCK_READ (R61, R89) -/

/-- Every setting of R64, the rehearsal flag in its place in the table. -/
def settingsBytes (r : Settings) (rehearsal : Bool) : List Byte :=
  u2 r.step ++ u1 r.interval ++ u1 r.span ++ u1 r.grace ++ u1 r.settle ++ u2 r.hold ++ u2 r.restartDelay ++
  u1 r.restartRaise ++ u1 r.depth ++ u2 r.lead ++ u2 r.pause ++ onByte r.autoAdvance ++ onByte r.autoStart ++
  onByte rehearsal ++ u3 r.rehearsalStart ++ u3 r.rehearsalReserve

/-- A given quantity; take-all and an absent one are both FFFFh (R93, log entry 9). -/
def givenBytes : Option Given → List Byte
  | none => optF2 none
  | some .takeAll => optF2 none
  | some (.stems q) => u2 q

/-- A winner record, its hold absent in a rehearsal run (R93). -/
def winnerBytes : Option Winner → List Byte
  | none => opt0 2 none ++ optF2 none ++ optF1 none ++ opt03 none ++ optAmount none ++ givenBytes none
  | some w =>
    u2 w.desk ++ optF2 w.buyer ++ u1 w.position ++ u3 w.price ++
    optAmount (w.buyer.map fun _ => (w.hold : Int)) ++ givenBytes w.given

/-- Page 0 of CLOCK_READ: the clock part of R89. -/
def clockPage0 (k : Clock) : List Byte :=
  settingsBytes k.set k.rehearsal ++ u1 k.state.code ++ onByte k.rehearsalRun ++ optF2 k.lot ++
  opt03 k.startPrice ++ opt03 k.reserve ++ optF1 k.position ++ opt03 (k.position.bind (priceOpt k)) ++ u1 k.tag ++
  optF1 k.nextStart ++ onByte k.pausePending ++ optF1 (k.cause.map (·.code)) ++ onByte k.reserved ++
  winnerBytes k.winner ++ optF2 k.lastSold ++ optF1 (k.waitBegin.map (·.kind.code)) ++
  optF1 (k.waitBegin.map (·.start)) ++ optF1 (k.waitHalt.map (·.reason.code)) ++
  optF1 (k.waitHalt.map (·.position)) ++ optF4 k.timer ++ u2 k.responses.length

def announceBytes (a : Option Announce) : List Byte := optF4 (a.map (·.time)) ++ optF4 (a.map (·.age))

/-- An entry of a queue (R61). One without an announce time is shown as not announced by the absence of its time and its
age; the lot state is shown as it stands (log entry 62). -/
def State.entryBytesOf (s : State) (e : QEntry) : List Byte :=
  u2 e.lot ++ u1 (lotStateCode (s.lot e.lot)) ++ u1 e.origin.code ++ announceBytes e.announce

/-- The pause that holds an AUTO pending start back (R57, R61). -/
def State.pauseLeft (s : State) (c : Nat) : Option Nat :=
  match (s.presOf c).pending with
  | some .auto => some (match (s.presOf c).letGo with | none => 0 | some n => (s.clock c).set.pause - n)
  | some .manual => none
  | none => none

/-- Page 1 of CLOCK_READ: the presentation state of R61. Of an age above 4,294,967,295 ms the 4 bytes of R196 hold the
low 32 bits (log entry 55). -/
def State.clockPage1 (s : State) (c : Nat) : List Byte :=
  let p := s.presOf c
  listBytes (p.queue.map s.entryBytesOf) ++ optF1 p.train ++ announceBytes p.current ++
  optF1 (p.pending.map (·.code)) ++ optF4 (p.pending.bind fun _ => s.leadLeft c) ++ optF4 (s.pauseLeft c) ++
  optF4 p.letGo

def State.clockPage (s : State) (c page : Nat) : List Byte :=
  match page with
  | 0 => clockPage0 (s.clock c)
  | 1 => s.clockPage1 c
  | _ => []

/-- CLOCK_READ (R61, R89). -/
def execClockRead (p : Port) (t : Nat) (c page : Nat) (s : State) : Host.Outcome State Fault Refusal :=
  .next (s.command p t none fun q => clockGuard q c <| .ok q (q.clockPage c page))

/-! ## ACCOUNT_READ, DESK_READ (R135, R143) -/

def State.accountReadBlock (s : State) (b : Nat) : Answer :=
  if Config.accounts ≤ b then .refuse s .noRecord
  else .ok s (accountFieldBytes (s.acct b) ++ FeeClass.bytes (s.fee (s.acct b).feeClass))

/-- ACCOUNT_READ (R135). -/
def execAccountRead (p : Port) (t : Nat) (b : Nat) (s : State) : Host.Outcome State Fault Refusal :=
  .next (s.command p t none fun q => q.accountReadBlock b)

/-- The badge of the buyer bound to a desk. -/
def State.badgeOf (s : State) (d : Nat) : Option Nat := (s.desk d).buyer.bind fun b => (s.acct b).badge

def State.deskReadBlock (s : State) (d : Nat) : Answer :=
  let e := s.desk d
  if deskExists d = false then .refuse s .noRecord
  else
    .ok s
      (optF2 e.buyer ++ u1 (if e.reachable then 0 else 1) ++ u1 e.undelivered ++ opt03 (s.badgeOf d) ++
        clockNumbers.flatMap fun c => u1 (s.winMark d c).code)

/-- DESK_READ (R143). -/
def execDeskRead (p : Port) (t : Nat) (d : Nat) (s : State) : Host.Outcome State Fault Refusal :=
  .next (s.command p t none fun q => q.deskReadBlock d)

/-! ## PORT_STATUS and the notices (R187, R189, R190) -/

/-- An open transfer, its next account for the account walk. The units expected are 1 or more (R184), so an absent count
is 0 (R197). -/
def xferBytes : Option Xfer → List Byte
  | none => optF1 none ++ opt02 none ++ optF2 none ++ optF2 none
  | some f =>
    u1 f.kind.code ++ opt02 f.expected ++ u2 f.done ++
    optF2 (match f.kind with | .closeAll => some f.next | .lotWrite | .layoutWrite | .report _ => none)

/-- A last transfer outcome: 0 for COMPLETE, 1 for ABORTED (R196). -/
def lastBytes : Option LastXfer → List Byte
  | none => optF1 none ++ optF1 none ++ optF2 none
  | some l => u1 (if l.complete then 0 else 1) ++ u1 l.kind.code ++ u2 l.done

/-- The pending flags of a port as one mask byte, bit 0 for the class of priority 1 (R187, log entry 59). -/
def State.pendingMask (s : State) (p : Port) : Nat :=
  (p.priorities.map fun k => if (s.flag p k).pending then 2 ^ (k - 1) else 0).sum

/-- The context of a port (R187). -/
def State.portBytes (s : State) (p : Port) : List Byte :=
  let x := s.port p
  u1 p.code ++ onByte x.busy ++ xferBytes x.xfer ++ lastBytes x.last ++ optF1 (x.slot.map (·.tag)) ++
  u1 (s.pendingMask p) ++ u1 s.power.monitor.code ++ u4 s.floorTime

def State.portStatusBlock (s : State) (n : Nat) : Answer :=
  match portOfCode n with
  | none => .refuse s .noRecord
  | some q => .ok s (s.portBytes q)

/-- PORT_STATUS (R187). -/
def execPortStatus (p : Port) (t : Nat) (n : Nat) (s : State) : Host.Outcome State Fault Refusal :=
  .next (s.command p t none fun q => q.portStatusBlock n)

/-- A class as NOTICE_PEEK shows it (R190); its detail before the first cause is log entry 53. -/
def State.noticeBytes (s : State) (p : Port) (k : Nat) : List Byte :=
  let f := s.flag p k
  u1 k ++ onByte f.pending ++ onByte f.again ++ f.detail.bytes (detailWidth p k) ++ onByte (s.enabled p k)

/-- NOTICE_PEEK (R190). -/
def execNoticePeek (p : Port) (t : Nat) (s : State) : Host.Outcome State Fault Refusal :=
  .next (s.command p t none fun q => .ok q (p.priorities.flatMap (q.noticeBytes p)))

/-- The highest-priority class that is pending and enabled is returned and cleared (R189). -/
def State.noticeTakeBlock (s : State) (p : Port) : Answer :=
  match s.nextNotice p with
  | none => .refuse s .empty
  | some k =>
    let f := s.flag p k
    .ok (s.setFlag p k { f with pending := false, again := false })
      (u1 k ++ f.detail.bytes (detailWidth p k) ++ onByte f.again)

/-- NOTICE_TAKE (R189). -/
def execNoticeTake (p : Port) (t : Nat) (s : State) : Host.Outcome State Fault Refusal :=
  .next (s.command p t none fun q => q.noticeTakeBlock p)

/-- The mask stored: bits beyond the port's classes are ignored (R190). -/
def maskFor (p : Port) (mask : BitVec 8) : BitVec 8 := mask &&& BitVec.ofNat 8 (2 ^ p.classCount - 1)

/-- NOTICE_ENABLE (R190). -/
def execNoticeEnable (p : Port) (t : Nat) (mask : BitVec 8) (s : State) : Host.Outcome State Fault Refusal :=
  .next (s.command p t none fun q =>
    .ok (q.setPort p { q.port p with mask := maskFor p mask }) (u1 (maskFor p mask).toNat))

/-! ## DATA and an undefined code (R182, R185) -/

/-- One more unit of the port's transfer is done (R185). -/
def Answer.unitDone (a : Answer) (p : Port) (f : Xfer) : Answer :=
  { a with state := a.state.countUnits p { f with done := f.done + 1 } }

/-- The next page of a report, drawn from the set as it stands (R87, R185). -/
def State.reportUnit (s : State) (c : Nat) (f : Xfer) : Answer := .ok s (reportBytes (s.clock c).responses f.done)

/-- What a DATA frame brings about by the port's open transfer; none when its unit is not the transfer's, and the frame
is discarded (R185, R196). -/
def State.dataBlock (s : State) (p : Port) (u : DataUnit) : Option Answer :=
  match (s.port p).xfer with
  | none => some (.refuse s .wrongState)
  | some f =>
    match f.kind, u with
    | .lotWrite, .lot r => some ((s.writeLot r).unitDone p f)
    | .layoutWrite, .segment r => some ((s.writeSegment r).unitDone p f)
    | .report c, .nothing => some ((s.reportUnit c f).unitDone p f)
    | .closeAll, .nothing => some (.ok s (u2 f.done ++ u2 f.next))
    | _, _ => none

/-- DATA (R185). -/
def execData (p : Port) (t : Nat) (u : DataUnit) (s : State) : Host.Outcome State Fault Refusal :=
  .next
    (if s.isOn then
      match s.dataBlock p u with
      | none => s
      | some a => a.reply p t
    else s)

/-- UNKNOWN_COMMAND: a command code that is not defined (R182). -/
def execUnknownCommand (p : Port) (t : Nat) (s : State) : Host.Outcome State Fault Refusal :=
  .next (s.command p t none fun q => .refuse q .unknownCommand)

end Sys2Proof.Machine
end

