-- ==== Sys2Proof/Machine/PortEvents.lean ====
section
/-! DEFINITION. Machine/PortEvents.lean: one exchange of a master port (R181, R192, R196, R197). -/

namespace Sys2Proof.Machine

/-- The command that a frame spells is taken (R181). Events are not given by frames. -/
def takeFrame (i : Instr) (s : State) : Host.Outcome State Fault Refusal :=
  match i with
  | .lotWrite p t n r => execLotWrite p t n r s
  | .lotWithdraw p t k => execLotWithdraw p t k s
  | .lotRelease p t k => execLotRelease p t k s
  | .layoutWrite p t w x n => execLayoutWrite p t w x n s
  | .segmentClear p t g => execSegmentClear p t g s
  | .accountWrite p t b r => execAccountWrite p t b r s
  | .feeClassWrite p t f a b c => execFeeClassWrite p t f a b c s
  | .deskUnbind p t d => execDeskUnbind p t d s
  | .journalFormat p t => execJournalFormat p t s
  | .timeSet p t v => execTimeSet p t v s
  | .floorReset p t => execFloorReset p t s
  | .clockSet p t c r => execClockSet p t c r s
  | .clockMode p t c b => execClockMode p t c b s
  | .clockLoad p t c => execClockLoad p t c s
  | .clockStart p t c => execClockStart p t c s
  | .clockPause p t c => execClockPause p t c s
  | .clockResume p t c => execClockResume p t c s
  | .clockSkip p t c => execClockSkip p t c s
  | .voidLast p t c => execVoidLast p t c s
  | .rehearsalRun p t c => execRehearsalRun p t c s
  | .rehearsalClear p t c => execRehearsalClear p t c s
  | .rehearsalReport p t c => execRehearsalReport p t c s
  | .trainForm p t n g l => execTrainForm p t n g l s
  | .trainDisband p t n => execTrainDisband p t n s
  | .trainMove p t n l => execTrainMove p t n l s
  | .moveRetry p t n => execMoveRetry p t n s
  | .moveCancel p t n => execMoveCancel p t n s
  | .distRead p t n g => execDistRead p t n g s
  | .invoiceClose p t b => execInvoiceClose p t b s
  | .invoiceCloseAll p t => execInvoiceCloseAll p t s
  | .paymentPost p t b a => execPaymentPost p t b a s
  | .journalRead p t q n => execJournalRead p t q n s
  | .journalRelease p t q => execJournalRelease p t q s
  | .lotRead p t k g => execLotRead p t k g s
  | .trainRead p t n => execTrainRead p t n s
  | .clockRead p t c g => execClockRead p t c g s
  | .accountRead p t b => execAccountRead p t b s
  | .deskRead p t d => execDeskRead p t d s
  | .portStatus p t n => execPortStatus p t n s
  | .noticePeek p t => execNoticePeek p t s
  | .noticeTake p t => execNoticeTake p t s
  | .noticeEnable p t m => execNoticeEnable p t m s
  | .data p t u => execData p t u s
  | .unknownCommand p t => execUnknownCommand p t s
  | .portExchange _ _ | .invoiceWalkStep | .deskFrameReceive _ | .stop | .quantity | .signIn | .signOut | .statusAsk
  | .malformedFrameDiscard | .pendingStartDue _ | .stepTimerExpiry _ | .settleExpiry _ | .holdTimerExpiry _
  | .restartTimerExpiry _ | .launchWindowAgeOut _ | .transitTimerExpiry _ | .senseLineChange _ _
  | .senseFilterExpiry _ | .frameSendBegin | .broadcastSent | .disturbance | .replyDelivered | .replyNotDelivered
  | .supplyWarn | .supplyRestored | .supplyFail | .supplyReturn _ | .resetLineAssert | .resetLineRelease
  | .powerUpSequence | .floorTimeMillisecond => .next s

/-- The frame being received stands in the port's mailbox; it is emptied when the exchange ends (R181). -/
def State.setMailbox (s : State) (p : Port) (bytes : List Byte) : State :=
  s.setPort p { s.port p with mailbox := bytes }

/-- An exchange of a part that takes frames: the output, then the frame in the mailbox, taken or discarded (R181). -/
def State.exchange (s : State) (p : Port) (given : List Byte) : Host.Outcome State Fault Refusal :=
  let s1 := (s.drive p (s.returnedBytes p)).setMailbox p given
  let s2 := s1.setMailbox p []
  match given with
  | [] => .next s2
  | _ :: _ =>
    match decodeFrame p (s2.wantedLength p) (s1.port p).mailbox with
    | .discarded => .next s2
    | .command i => takeFrame i s2

/-- PORT_EXCHANGE (R181). While the part starts, the exchange returns the status summary and takes no frame (R192);
while it is halted, it returns nothing (R160). -/
def execPortExchange (p : Port) (given : List Byte) (s : State) : Host.Outcome State Fault Refusal :=
  match s.power.monitor with
  | .off => .next (s.drive p [])
  | .starting => .next (s.drive p (s.returnedBytes p))
  | .normal => s.exchange p given
  | .low => s.exchange p given

end Sys2Proof.Machine
end

