-- ==== Sys2Proof/Machine/Retained.lean ====
section
/-! DEFINITION. Machine/Retained.lean: the halt, what the retained store is found to hold, and the power-up sequence (R15,
R16, R45, R62, R90, R147, R158 to R163, R178, R180). -/

namespace Sys2Proof.Machine

/-! ## The halt (R160) -/

/-- The part halts: everything outside the retained store is lost (R160), and stands at its power-up value until the
part starts again (log entry 12). The lines driven from outside keep their levels. -/
def State.halt (s : State) : State :=
  { State.reset with
    lots := s.lots, accounts := s.accounts, journal := s.journal, change := s.change, sense := s.sense
    ports := Ports.reset, power := { s.power with monitor := .off }, pending := s.pending }

/-! ## What the store is found to hold (R161 to R163, log entry 8) -/

/-- One difference between what the store held at the halt and what it is found to hold. -/
def State.find (s : State) : StoreFind → State
  | .lot k found w => { s with lots := Tab.set LotCell.free s.lots k { lot := found, found := some w } }
  | .account b found w => { s with accounts := Tab.set AcctCell.vacant s.accounts b { acct := found, found := some w } }
  | .entry k found => s.setPlace k found
  | .values second found w =>
    let c : ValuesCopy := { values := found, found := some w }
    if second then { s with journal := { s.journal with copy2 := c } }
    else { s with journal := { s.journal with copy1 := c } }
  | .change found w => { s with change := some { change := found, found := some w } }

/-! ## Step 1: the change record (R161) -/

/-- Every new value of a change record is written to the records. -/
def State.applyChange (s : State) (r : ChangeRec) : State :=
  let s1 := r.lots.foldl (fun q c => q.setLot c.1 c.2) s
  let s2 := r.accounts.foldl (fun q c => q.setAcct c.1 c.2) s1
  let s3 := r.entries.foldl (fun q c => q.setPlace c.1 c.2) s2
  match r.values with
  | none => s3
  | some v => s3.setValues v

/-- A change record that passes its check is applied again; one that fails is discarded (R161). -/
def State.handleChange (s : State) : State :=
  match s.change with
  | none => s
  | some c => { if c.passes then s.applyChange c.change else s with change := none }

/-! ## Step 2: the journal's values (R162) -/

/-- The entry of a place, if it passes its check. -/
def State.goodEntry (s : State) (k : Nat) : Option JEntry := (s.place k).filter entryPasses

/-- The place whose entry carries the greatest sequence among the entries that pass, in the order of issue (R162). -/
def newestGood : List (Nat × Option JEntry) → Option (Nat × Nat)
  | [] => none
  | c :: t =>
    match c.2.filter entryPasses, newestGood t with
    | none, r => r
    | some e, none => some (c.1, e.seq)
    | some e, some (k, q) => if seqLater e.seq q then some (c.1, e.seq) else some (k, q)

/-- The place before `k`. -/
def placeBack (k : Nat) : Nat := (k + Config.journalSize - 1) % Config.journalSize

/-- The length of the held range that runs back from place `k`, whose entry carries sequence `q`; at most `n` places
more are counted (R162). -/
def State.runBack (s : State) : Nat → Nat → Nat → Nat
  | 0, _, _ => 0
  | 1, k, q =>
    match s.goodEntry (placeBack k) with
    | some e => if e.seq = seqBack q 1 then 1 else 0
    | none => 0
  | n + 2, k, q =>
    match s.goodEntry (placeBack k) with
    | some e => if e.seq = seqBack q 1 then 1 + s.runBack (n + 1) (placeBack k) e.seq else 0
    | none =>
      match s.goodEntry (placeBack (placeBack k)) with
      | some e => if e.seq = seqBack q 2 then 2 + s.runBack n (placeBack (placeBack k)) e.seq else 0
      | none => 0

/-- The journal's values rebuilt from the entries (R162). -/
def State.rebuiltValues (s : State) : JournalValues :=
  match newestGood s.journal.places with
  | none => JournalValues.empty
  | some (k, q) =>
    let used := 1 + s.runBack (Config.journalSize - 1) k q
    { used := used, reserved := 0, newest := some q
      oldestPlace := (k + Config.journalSize + 1 - used) % Config.journalSize }

/-- The copies are checked: the values that stand, and whether they were rebuilt (R162). -/
def State.checkedValues (s : State) : JournalValues × Bool :=
  let a := s.journal.copy1
  let b := s.journal.copy2
  if a.passes then (a.values, false)
  else if b.passes then (b.values, false)
  else (s.rebuiltValues, true)

/-! ## Steps 3 and 4: lots and accounts (R15, R16, R147) -/

/-- The power-up value of a lot record that passed (R16). -/
def lotAtPowerUp (r : LotRec) : LotRec :=
  if r.state.closed then { r with train := none }
  else { r with state := .registered, train := none, clock := none }

/-- A slot at the end of the sequence: FREE when it fails its check, the value of R16 otherwise. -/
def LotCell.powerUp (c : LotCell) : LotCell :=
  if c.passes then { lot := c.lot.map lotAtPowerUp, found := none } else LotCell.free

/-- The OVER flag at power-up (R147). -/
def overAtPowerUp (a : Account) : Bool := a.saturated || decide (a.limit < exposureExact a)

/-- The power-up values of an account (R147). -/
def acctAtPowerUp (a : Account) : Account :=
  let b := { a with heldAmt := 0, desk := none }
  { b with isOver := overAtPowerUp b }

/-- An account at the end of the sequence: DAMAGED when it fails its check (R147). -/
def AcctCell.powerUp (c : AcctCell) : AcctCell :=
  { acct := acctAtPowerUp (if c.passes then c.acct else { c.acct with state := .damaged }), found := none }

/-! ## Step 5: the held entries (R163) -/

/-- The entry read from a cleared place that is counted as held: its sequence is given, every field that a reader sees is
a free value, and its kind is shown as DAMAGED (log entry 33). -/
def clearedEntry (seq : Nat) : JEntry :=
  let f := Config.clearedField
  { seq := seq, kind := .purchase, clock := f 0, time := f 1, lot := f 2, catalogue := f 3, buyer := f 4, desk := f 5
    tag := f 6, position := f 7, price := f 8, stems := f 9, gross := f 10, fee := f 11, net := f 12
    voided := Config.clearedVoided
    check := BitVec.ofNat 16 (f 13), damaged := true }

/-- A held place is checked; an entry that fails is marked DAMAGED, its sequence staying in the held range (R163). The
sequence is written into the entry (log entry 46). -/
def State.checkPlace (s : State) (k seq : Nat) : State :=
  match s.place k with
  | none => s.setPlace k (some (clearedEntry seq))
  | some e => if entryPasses e then s else s.setPlace k (some { e with seq := seq, damaged := true })

/-- The place and the sequence of the `i`th held entry, counted from the oldest. -/
def heldAt (v : JournalValues) (i : Nat) : Nat × Nat :=
  ((v.oldestPlace + i) % Config.journalSize, seqBack (v.newest.getD 0) (v.used - 1 - i))

/-- Every held entry is checked, the oldest first. -/
def State.checkEntries (s : State) (v : JournalValues) : State :=
  State.each (fun i q => let (k, seq) := heldAt v i; q.checkPlace k seq) (List.range v.used) s

/-- The number of held entries that fail their check. -/
def State.badEntries (s : State) (v : JournalValues) : Nat :=
  (List.range v.used).countP fun i => (s.goodEntry (heldAt v i).1).isNone

/-! ## The sequence (R163) -/

/-- The retained records at the end of the sequence, with the journal's values `v` (steps 3 to 6). -/
def State.retainedPowerUp (s : State) (v : JournalValues) : State :=
  let s1 := (s.checkEntries v).setValues { v with reserved := 0 }
  { s1 with
    lots := Tab.mapAll LotCell.free (fun _ c => c.powerUp) s1.lots
    accounts := Tab.mapAll AcctCell.vacant (fun _ c => c.powerUp) s1.accounts }

/-- The monitor at the end of the sequence follows the supply; LOW is told to SUP (R158). -/
def State.startMonitor (s : State) : State :=
  if s.power.level = .good then { s with power := { s.power with monitor := .normal } }
  else { s with power := { s.power with monitor := .low } }.raise .sup .supply (.supply false)

/-- The power-up sequence (R163). -/
def State.powerUp (s : State) : State :=
  let s1 := s.handleChange
  let (v, rebuilt) := s1.checkedValues
  let lots := s1.lots.countP fun c => !c.2.passes
  let accounts := s1.accounts.countP fun c => !c.2.passes
  let entries := s1.badEntries v
  let s2 := (s1.retainedPowerUp v).halt
  { s2 with ports := Ports.started lots accounts entries rebuilt }.startMonitor

end Sys2Proof.Machine
end

