-- ==== Sys2Proof/Machine/SupplyEvents.lean ====
section
/-! DEFINITION. Machine/SupplyEvents.lean: the supply monitor, the reset line, the power-up sequence and the millisecond
of the reference clock line (R158 to R163, R193). -/

namespace Sys2Proof.Machine

def State.setMonitor (s : State) (m : Monitor) : State := { s with power := { s.power with monitor := m } }

def State.setLevel (s : State) (l : SupplyLevel) : State := { s with power := { s.power with level := l } }

/-! ## The supply (R158, R159) -/

/-- NORMAL becomes LOW: SUPPLY to SUP, and each clock is handled by its state (R81, R158, R159), clock 0 first
and clock 5 last (log entry 49). -/
def State.goLow (s : State) : State :=
  let s1 := (s.setMonitor .low).raise .sup .supply (.supply false)
  (State.each (fun c q => q.warnClock c) clockNumbers s1).judgeClocks none

/-- SUPPLY_WARN: the supply has fallen below WARN (R158). -/
def execSupplyWarn (s : State) : Host.Outcome State Fault Refusal :=
  .next
    (if s.power.level = .good then
      let s1 := s.setLevel .belowWarn
      if s.power.monitor = .normal then s1.goLow else s1
    else s)

/-- LOW becomes NORMAL: SUPPLY to SUP, and launch eligibility is re-examined (R44, R158). -/
def State.goNormal (s : State) : State :=
  ((s.setMonitor .normal).raise .sup .supply (.supply true)).reexamine

/-- SUPPLY_RESTORED: the supply has stood at or above WARN for 100 ms (R158). The return of a supply that was below FAIL
is SUPPLY_RETURN. -/
def execSupplyRestored (s : State) : Host.Outcome State Fault Refusal :=
  .next
    (if s.power.level = .belowWarn then
      let s1 := s.setLevel .good
      if s.power.monitor = .low then s1.goNormal else s1
    else s)

/-- SUPPLY_FAIL: the supply has fallen below FAIL (R158, R160). The restrictions of LOW, taken first in NORMAL, change
nothing that outlives the halt. -/
def execSupplyFail (s : State) : Host.Outcome State Fault Refusal :=
  let s1 := s.setLevel .belowFail
  match s.power.monitor with
  | .normal => .next (s1.goLow.halt)
  | .low => .next s1.halt
  | .starting => .next (s1.setMonitor .off)
  | .off => .next s1

/-- SUPPLY_RETURN: the supply, off, has stood at or above WARN for 100 ms; the store is found as given, and the power-up
sequence begins unless the reset line is active (R158, log entries 8 and 22). -/
def execSupplyReturn (found : List StoreFind) (s : State) : Host.Outcome State Fault Refusal :=
  match s.power.monitor with
  | .off =>
    let s1 := (found.foldl State.find s).setLevel .good
    .next (if s.power.resetActive then s1 else s1.setMonitor .starting)
  | .starting => .next s
  | .normal => .next s
  | .low => .next s

/-! ## The reset line (R158, R160, log entry 22) -/

def State.setReset (s : State) (active : Bool) : State := { s with power := { s.power with resetActive := active } }

/-- RESET_LINE_ASSERT: the part halts, whatever the supply (R160). -/
def execResetLineAssert (s : State) : Host.Outcome State Fault Refusal :=
  match s.power.monitor with
  | .off => .next (s.setReset true)
  | .starting => .next ((s.setReset true).setMonitor .off)
  | .normal => .next (s.setReset true).halt
  | .low => .next (s.setReset true).halt

/-- The level that the supply is taken to stand at when the reset line is released. One that last fell below FAIL is
taken as below WARN: a supply that is still below FAIL is told next, by SUPPLY_FAIL (log entry 22). -/
def SupplyLevel.atRelease : SupplyLevel → SupplyLevel
  | .good => .good
  | .belowWarn => .belowWarn
  | .belowFail => .belowWarn

/-- RESET_LINE_RELEASE: the part enters STARTING and the power-up sequence begins, below WARN also (R158, R160). -/
def execResetLineRelease (s : State) : Host.Outcome State Fault Refusal :=
  .next (if s.power.resetActive then ((s.setReset false).setLevel s.power.level.atRelease).setMonitor .starting else s)

/-- POWER_UP_SEQUENCE (R163). -/
def execPowerUpSequence (s : State) : Host.Outcome State Fault Refusal :=
  .next (if s.power.monitor = .starting then s.powerUp else s)

/-! ## A millisecond (R193) -/

/-- A timer counts down. -/
def countDown (t : Option Nat) : Option Nat := t.map fun n => n - 1

/-- An age counts up, without a bound (R61, R193, log entry 55). -/
def Announce.older (a : Announce) : Announce := { a with age := a.age + 1 }

def QEntry.older (e : QEntry) : QEntry := { e with announce := e.announce.map Announce.older }

/-- The announce ages and the let-go age of a clock's presentation state count up, without a bound (log entry 55). -/
def Pres.older (p : Pres) : Pres :=
  { p with queue := p.queue.map QEntry.older, current := p.current.map Announce.older, letGo := p.letGo.map (· + 1) }

def Launch.older (e : Launch) : Launch := { e with age := e.age + 1 }

def FilterTiming.nearer (f : FilterTiming) : FilterTiming := { f with left := f.left - 1 }

/-- A millisecond in the yard: transit timers, sense-line filters and launch windows. -/
def Yard.millisecond (y : Yard) : Yard :=
  { y with
    trains := Tab.mapAll Train.empty (fun _ r => { r with timer := countDown r.timer }) y.trains
    segs := Tab.mapAll Segment.undefined (fun _ x => { x with timing := x.timing.map FilterTiming.nearer }) y.segs
    windows := Tab.mapAll [] (fun _ w => w.map Launch.older) y.windows }

/-- The floor time, every timer and every age count one millisecond (R47, R57, R193). -/
def State.millisecond (s : State) : State :=
  { s with
    floorTime := (s.floorTime + 1) % Config.floorTimeSpan
    yard := s.yard.millisecond
    pres := Tab.mapAll Pres.reset (fun _ p => p.older) s.pres
    clocks := Tab.mapAll Clock.reset (fun _ k => { k with timer := countDown k.timer }) s.clocks }

/-- FLOOR_TIME_MILLISECOND (R193). -/
def execFloorTimeMillisecond (s : State) : Host.Outcome State Fault Refusal :=
  .next (if s.isOn then s.millisecond else s)

end Sys2Proof.Machine
end

