-- ==== Sys2Proof/Machine/YardEvents.lean ====
section
/-! DEFINITION. Machine/YardEvents.lean: launch windows, transit timers and sense lines (R22, R31, R37). -/

namespace Sys2Proof.Machine

/-- The oldest launch time of a group has reached the window length (R31). -/
def State.launchAged (s : State) (g : Nat) : Bool :=
  match s.window g with
  | [] => false
  | e :: _ => s.yard.windowLength * 1000 ≤ e.age

/-- LAUNCH_WINDOW_AGE_OUT: the entry is dropped and launch eligibility is re-examined (R29, R31). -/
def execLaunchWindowAgeOut (g : Nat) (s : State) : Host.Outcome State Fault Refusal :=
  .next (if s.isOn ∧ s.launchAged g = true then (s.setWindow g (s.window g).tail).reexamine else s)

/-- TRANSIT_TIMER_EXPIRY: a MOVING train stalls with cause TRANSIT (R37). -/
def execTransitTimerExpiry (t : Nat) (s : State) : Host.Outcome State Fault Refusal :=
  let r := s.train t
  .next (if s.isOn ∧ r.state = .moving ∧ r.timer = some 0 then s.stall t .transit else s)

/-- The level on a sense line. -/
def State.setSense (s : State) (g : Nat) (level : Bool) : State := { s with sense := Tab.set false s.sense g level }

/-- The filter of a defined segment meets a change of the sensed level (R22): a change away from the filtered level is
timed, or taken at once with a filter time of 0; a return to it discards the change. -/
def State.filterChange (s : State) (g : Nat) (l : SegLayout) : State :=
  let x := s.seg g
  if s.sensed g = x.level then s.setSeg g { x with timing := none }
  else if l.filter = 0 then (s.takeEdge g l).settle
  else s.setSeg g { x with timing := some { since := s.floorTime, left := l.filter } }

/-- The change of a sense line: the line takes its level, and the filter of a defined segment meets the change (R22). -/
def State.senseChange (s : State) (g : Nat) (level : Bool) : State :=
  let s1 := s.setSense g level
  match (s1.seg g).layout with
  | none => s1
  | some l => if s1.isOn then s1.filterChange g l else s1

/-- SENSE_LINE_CHANGE (R22). A level that the line has already is no change. -/
def execSenseLineChange (g : Nat) (level : Bool) (s : State) : Host.Outcome State Fault Refusal :=
  .next (if g < Config.segments ∧ s.sensed g ≠ level then s.senseChange g level else s)

/-- The filter of a segment has timed a change for the filter time. -/
def State.filterDone (s : State) (g : Nat) : Option SegLayout :=
  match (s.seg g).timing, (s.seg g).layout with
  | some f, some l => if s.isOn ∧ f.left = 0 then some l else none
  | _, _ => none

/-- SENSE_FILTER_EXPIRY: the filtered level takes the new value and one edge is taken (R22, R23). -/
def execSenseFilterExpiry (g : Nat) (s : State) : Host.Outcome State Fault Refusal :=
  match s.filterDone g with
  | some l => .next (s.takeEdge g l).settle
  | none => .next s

end Sys2Proof.Machine
end

