-- ==== Sys2Proof/Machine/Dispatch.lean ====
section
/-! DEFINITION. Machine/Dispatch.lean: one arm per command. -/

namespace Sys2Proof.Machine

/-- The effect of a command on everything but the queue of commands. -/
def exec (i : Instr) (s : State) : Host.Outcome State Fault Refusal :=
  match i with
  | .lotWrite p t count r => Sys2Proof.Machine.execLotWrite p t count r s
  | .lotWithdraw p t slot => Sys2Proof.Machine.execLotWithdraw p t slot s
  | .lotRelease p t slot => Sys2Proof.Machine.execLotRelease p t slot s
  | .layoutWrite p t window transit count => Sys2Proof.Machine.execLayoutWrite p t window transit count s
  | .segmentClear p t segment => Sys2Proof.Machine.execSegmentClear p t segment s
  | .accountWrite p t buyer r => Sys2Proof.Machine.execAccountWrite p t buyer r s
  | .feeClassWrite p t fclass stemFee percentage minimum => Sys2Proof.Machine.execFeeClassWrite p t fclass stemFee percentage minimum s
  | .deskUnbind p t desk => Sys2Proof.Machine.execDeskUnbind p t desk s
  | .journalFormat p t => Sys2Proof.Machine.execJournalFormat p t s
  | .timeSet p t value => Sys2Proof.Machine.execTimeSet p t value s
  | .floorReset p t => Sys2Proof.Machine.execFloorReset p t s
  | .clockSet p t c r => Sys2Proof.Machine.execClockSet p t c r s
  | .clockMode p t c on => Sys2Proof.Machine.execClockMode p t c on s
  | .clockLoad p t c => Sys2Proof.Machine.execClockLoad p t c s
  | .clockStart p t c => Sys2Proof.Machine.execClockStart p t c s
  | .clockPause p t c => Sys2Proof.Machine.execClockPause p t c s
  | .clockResume p t c => Sys2Proof.Machine.execClockResume p t c s
  | .clockSkip p t c => Sys2Proof.Machine.execClockSkip p t c s
  | .voidLast p t c => Sys2Proof.Machine.execVoidLast p t c s
  | .rehearsalRun p t c => Sys2Proof.Machine.execRehearsalRun p t c s
  | .rehearsalClear p t c => Sys2Proof.Machine.execRehearsalClear p t c s
  | .rehearsalReport p t c => Sys2Proof.Machine.execRehearsalReport p t c s
  | .trainForm p t train segment lots => Sys2Proof.Machine.execTrainForm p t train segment lots s
  | .trainDisband p t train => Sys2Proof.Machine.execTrainDisband p t train s
  | .trainMove p t train route => Sys2Proof.Machine.execTrainMove p t train route s
  | .moveRetry p t train => Sys2Proof.Machine.execMoveRetry p t train s
  | .moveCancel p t train => Sys2Proof.Machine.execMoveCancel p t train s
  | .distRead p t train page => Sys2Proof.Machine.execDistRead p t train page s
  | .invoiceClose p t buyer => Sys2Proof.Machine.execInvoiceClose p t buyer s
  | .invoiceCloseAll p t => Sys2Proof.Machine.execInvoiceCloseAll p t s
  | .paymentPost p t buyer cents => Sys2Proof.Machine.execPaymentPost p t buyer cents s
  | .journalRead p t seq count => Sys2Proof.Machine.execJournalRead p t seq count s
  | .journalRelease p t seq => Sys2Proof.Machine.execJournalRelease p t seq s
  | .lotRead p t slot page => Sys2Proof.Machine.execLotRead p t slot page s
  | .trainRead p t train => Sys2Proof.Machine.execTrainRead p t train s
  | .clockRead p t c page => Sys2Proof.Machine.execClockRead p t c page s
  | .accountRead p t buyer => Sys2Proof.Machine.execAccountRead p t buyer s
  | .deskRead p t desk => Sys2Proof.Machine.execDeskRead p t desk s
  | .portStatus p t port => Sys2Proof.Machine.execPortStatus p t port s
  | .noticePeek p t => Sys2Proof.Machine.execNoticePeek p t s
  | .noticeTake p t => Sys2Proof.Machine.execNoticeTake p t s
  | .noticeEnable p t mask => Sys2Proof.Machine.execNoticeEnable p t mask s
  | .data p t u => Sys2Proof.Machine.execData p t u s
  | .unknownCommand p t => Sys2Proof.Machine.execUnknownCommand p t s
  | .portExchange p given => Sys2Proof.Machine.execPortExchange p given s
  | .invoiceWalkStep => Sys2Proof.Machine.execInvoiceWalkStep s
  | .deskFrameReceive f => Sys2Proof.Machine.execDeskFrameReceive f s
  | .stop => Sys2Proof.Machine.execStop s
  | .quantity => Sys2Proof.Machine.execQuantity s
  | .signIn => Sys2Proof.Machine.execSignIn s
  | .signOut => Sys2Proof.Machine.execSignOut s
  | .statusAsk => Sys2Proof.Machine.execStatusAsk s
  | .malformedFrameDiscard => Sys2Proof.Machine.execMalformedFrameDiscard s
  | .pendingStartDue c => Sys2Proof.Machine.execPendingStartDue c s
  | .stepTimerExpiry c => Sys2Proof.Machine.execStepTimerExpiry c s
  | .settleExpiry c => Sys2Proof.Machine.execSettleExpiry c s
  | .holdTimerExpiry c => Sys2Proof.Machine.execHoldTimerExpiry c s
  | .restartTimerExpiry c => Sys2Proof.Machine.execRestartTimerExpiry c s
  | .launchWindowAgeOut group => Sys2Proof.Machine.execLaunchWindowAgeOut group s
  | .transitTimerExpiry train => Sys2Proof.Machine.execTransitTimerExpiry train s
  | .senseLineChange segment level => Sys2Proof.Machine.execSenseLineChange segment level s
  | .senseFilterExpiry segment => Sys2Proof.Machine.execSenseFilterExpiry segment s
  | .frameSendBegin => Sys2Proof.Machine.execFrameSendBegin s
  | .broadcastSent => Sys2Proof.Machine.execBroadcastSent s
  | .disturbance => Sys2Proof.Machine.execDisturbance s
  | .replyDelivered => Sys2Proof.Machine.execReplyDelivered s
  | .replyNotDelivered => Sys2Proof.Machine.execReplyNotDelivered s
  | .supplyWarn => Sys2Proof.Machine.execSupplyWarn s
  | .supplyRestored => Sys2Proof.Machine.execSupplyRestored s
  | .supplyFail => Sys2Proof.Machine.execSupplyFail s
  | .supplyReturn found => Sys2Proof.Machine.execSupplyReturn found s
  | .resetLineAssert => Sys2Proof.Machine.execResetLineAssert s
  | .resetLineRelease => Sys2Proof.Machine.execResetLineRelease s
  | .powerUpSequence => Sys2Proof.Machine.execPowerUpSequence s
  | .floorTimeMillisecond => Sys2Proof.Machine.execFloorTimeMillisecond s

end Sys2Proof.Machine
end

