-- ==== Sys2Proof/Roles.lean ====
section
/-! DEFINITION. Roles.lean: which commands are given by command frames, on which port and with which tag, and the role
that may give each (R181, R182, R196). -/

namespace Sys2Proof

/-- The port and the tag of a command that is given by a command frame (R181, R196); none for an event and for an
exchange. -/
def Instr.given : Instr → Option (Port × Nat)
  | .lotWrite p t _ _ => some (p, t)
  | .lotWithdraw p t _ => some (p, t)
  | .lotRelease p t _ => some (p, t)
  | .layoutWrite p t _ _ _ => some (p, t)
  | .segmentClear p t _ => some (p, t)
  | .accountWrite p t _ _ => some (p, t)
  | .feeClassWrite p t _ _ _ _ => some (p, t)
  | .deskUnbind p t _ => some (p, t)
  | .journalFormat p t => some (p, t)
  | .timeSet p t _ => some (p, t)
  | .floorReset p t => some (p, t)
  | .clockSet p t _ _ => some (p, t)
  | .clockMode p t _ _ => some (p, t)
  | .clockLoad p t _ => some (p, t)
  | .clockStart p t _ => some (p, t)
  | .clockPause p t _ => some (p, t)
  | .clockResume p t _ => some (p, t)
  | .clockSkip p t _ => some (p, t)
  | .voidLast p t _ => some (p, t)
  | .rehearsalRun p t _ => some (p, t)
  | .rehearsalClear p t _ => some (p, t)
  | .rehearsalReport p t _ => some (p, t)
  | .trainForm p t _ _ _ => some (p, t)
  | .trainDisband p t _ => some (p, t)
  | .trainMove p t _ _ => some (p, t)
  | .moveRetry p t _ => some (p, t)
  | .moveCancel p t _ => some (p, t)
  | .distRead p t _ _ => some (p, t)
  | .invoiceClose p t _ => some (p, t)
  | .invoiceCloseAll p t => some (p, t)
  | .paymentPost p t _ _ => some (p, t)
  | .journalRead p t _ _ => some (p, t)
  | .journalRelease p t _ => some (p, t)
  | .lotRead p t _ _ => some (p, t)
  | .trainRead p t _ => some (p, t)
  | .clockRead p t _ _ => some (p, t)
  | .accountRead p t _ => some (p, t)
  | .deskRead p t _ => some (p, t)
  | .portStatus p t _ => some (p, t)
  | .noticePeek p t => some (p, t)
  | .noticeTake p t => some (p, t)
  | .noticeEnable p t _ => some (p, t)
  | .data p t _ => some (p, t)
  | .unknownCommand p t => some (p, t)
  | .portExchange _ _ | .invoiceWalkStep | .deskFrameReceive _ | .stop | .quantity | .signIn | .signOut
  | .statusAsk | .malformedFrameDiscard | .pendingStartDue _ | .stepTimerExpiry _ | .settleExpiry _
  | .holdTimerExpiry _ | .restartTimerExpiry _ | .launchWindowAgeOut _ | .transitTimerExpiry _
  | .senseLineChange _ _ | .senseFilterExpiry _ | .frameSendBegin | .broadcastSent | .disturbance
  | .replyDelivered | .replyNotDelivered | .supplyWarn | .supplyRestored | .supplyFail | .supplyReturn _
  | .resetLineAssert | .resetLineRelease | .powerUpSequence | .floorTimeMillisecond => none

/-- The role that may give a command (R182); none for the commands of every port and for the events. -/
def Instr.role : Instr → Option Port
  | .lotWrite _ _ _ _ | .lotWithdraw _ _ _ | .lotRelease _ _ _ | .layoutWrite _ _ _ _ _ | .segmentClear _ _ _
  | .accountWrite _ _ _ _ | .feeClassWrite _ _ _ _ _ _ | .deskUnbind _ _ _ | .journalFormat _ _ | .timeSet _ _ _
  | .floorReset _ _ => some .sup
  | .clockSet _ _ _ _ | .clockMode _ _ _ _ | .clockLoad _ _ _ | .clockStart _ _ _ | .clockPause _ _ _
  | .clockResume _ _ _ | .clockSkip _ _ _ | .voidLast _ _ _ | .rehearsalRun _ _ _ | .rehearsalClear _ _ _
  | .rehearsalReport _ _ _ => some .auc
  | .trainForm _ _ _ _ _ | .trainDisband _ _ _ | .trainMove _ _ _ _ | .moveRetry _ _ _ | .moveCancel _ _ _
  | .distRead _ _ _ _ => some .yrd
  | .invoiceClose _ _ _ | .invoiceCloseAll _ _ | .paymentPost _ _ _ _ | .journalRead _ _ _ _
  | .journalRelease _ _ _ => some .fin
  | .lotRead _ _ _ _ | .trainRead _ _ _ | .clockRead _ _ _ _ | .accountRead _ _ _ | .deskRead _ _ _
  | .portStatus _ _ _ | .noticePeek _ _ | .noticeTake _ _ | .noticeEnable _ _ _ | .data _ _ _
  | .unknownCommand _ _ | .portExchange _ _ | .invoiceWalkStep | .deskFrameReceive _ | .stop | .quantity
  | .signIn | .signOut | .statusAsk | .malformedFrameDiscard | .pendingStartDue _ | .stepTimerExpiry _
  | .settleExpiry _ | .holdTimerExpiry _ | .restartTimerExpiry _ | .launchWindowAgeOut _ | .transitTimerExpiry _
  | .senseLineChange _ _ | .senseFilterExpiry _ | .frameSendBegin | .broadcastSent | .disturbance
  | .replyDelivered | .replyNotDelivered | .supplyWarn | .supplyRestored | .supplyFail | .supplyReturn _
  | .resetLineAssert | .resetLineRelease | .powerUpSequence | .floorTimeMillisecond => none

end Sys2Proof
end

