-- ==== Sys2Proof/Safety.lean ====
section
/-! DEFINITION. Safety.lean: what stays true of the part whatever commands it is given: the sizes of its queues, its
tables in canonical form, the stems of its lots, its OVER flags, its bindings and its reservations; and the conditions
that the statements about single commands share. -/

namespace Sys2Proof.Machine

/-! ## What every step keeps -/

/-- The inbound queue holds at most 32 frames (R170), the outbound queue 16 (R171), the move queue 16 moves (R28), a
launch window 4 launch times (R31), and a presentation queue 8 entries (R47). -/
structure State.QueuesFit (s : State) : Prop where
  inbound : s.line.inbound.length ≤ 32
  outbound : s.line.outbound.length ≤ 16
  moves : s.yard.moves.length ≤ 16
  windows : ∀ x ∈ s.yard.windows, x.2.length ≤ 4
  queues : ∀ x ∈ s.pres, x.2.queue.length ≤ 8

/-- In the outbound queue the replies stand ahead of the broadcasts, but that a broadcast which has been begun stays at
the head; no place behind the head has been sent (R171, R174). -/
structure State.RepliesAhead (s : State) : Prop where
  behind : s.line.outbound.tail.Pairwise fun a b => b.frame.isReply = true → a.frame.isReply = true
  head : ∀ a t, s.line.outbound = a :: t → a.sent = 0 → a.frame.isReply = false →
    ∀ b ∈ t, b.frame.isReply = false
  fresh : ∀ b ∈ s.line.outbound.tail, b.sent = 0

/-- Every table is in its canonical form. -/
structure State.TablesWf (s : State) : Prop where
  lots : Tab.wf LotCell.free s.lots = true
  accounts : Tab.wf AcctCell.vacant s.accounts = true
  places : Tab.wf none s.journal.places = true
  segs : Tab.wf Segment.undefined s.yard.segs = true
  trains : Tab.wf Train.empty s.yard.trains = true
  windows : Tab.wf [] s.yard.windows = true
  sense : Tab.wf false s.sense = true
  pres : Tab.wf Pres.reset s.pres = true
  clocks : Tab.wf Clock.reset s.clocks = true
  fees : Tab.wf FeeClass.zero s.fees = true
  desks : Tab.wf Desk.reset s.desks = true
  flags : ∀ p, Tab.wf Flag.clear (s.port p).flags = true

/-- The stems of a lot's purchase list and its remaining stems equal its total stems (R7). -/
def LotRec.addsUp (r : LotRec) : Prop := (r.purchases.map (·.stems)).sum + r.remaining = r.total

/-- Every lot adds up (R7), and no change waits in the change record (R161). -/
structure State.LotsAddUp (s : State) : Prop where
  change : s.change = none
  lots : ∀ x ∈ s.lots, ∀ r, x.2.lot = some r → LotRec.addsUp r

/-- While the part is on, no held amount is below 0, and an account whose OVER flag is clear stands within its credit
limit (R130). -/
def State.OverHolds (s : State) : Prop :=
  s.isOn = true → ∀ x ∈ s.accounts,
    0 ≤ x.2.acct.heldAmt ∧
      (x.2.acct.isOver = false → x.2.acct.openAmt + x.2.acct.billedAmt + x.2.acct.heldAmt ≤ x.2.acct.limit)

/-- While the part is on, a desk is bound to a buyer exactly when the buyer's account is bound to the desk (R143). -/
structure State.BindingsAgree (s : State) : Prop where
  desks : Tab.wf Desk.reset s.desks = true
  accounts : Tab.wf AcctCell.vacant s.accounts = true
  agree : s.isOn = true → ∀ d b, (s.desk d).buyer = some b ↔ (s.acct b).desk = some d

/-- A winner record, if there is one, names a buyer. -/
def hasBuyer (w : Option Winner) : Prop := ∃ v, w = some v ∧ v.buyer.isSome = true

/-- A clock that runs or settles a lot, or has a sale to commit, holds a reservation; a halt waits only in RUNNING. -/
structure Clock.Reserves (k : Clock) : Prop where
  run : (k.state = .running ∨ k.state = .settling) → k.rehearsalRun = false → k.reserved = true
  sale : hasBuyer k.winner → k.reserved = true
  candidate : hasBuyer (k.waitHalt.bind (·.candidate)) → k.reserved = true
  halt : k.waitHalt.isSome = true → k.state = .running

/-- Neither copy of the journal's values counts more than 8192 entries, no change waits in the change record, and while
the part is on the reserved count is the number of clocks that hold a reservation, used plus reserved is at most 8192,
and every clock that sells holds one (R151). -/
structure State.ReservationsHold (s : State) : Prop where
  change : s.change = none
  copy1 : s.journal.copy1.values.used ≤ 8192
  copy2 : s.journal.copy2.values.used ≤ 8192
  table : Tab.wf Clock.reset s.clocks = true
  counted : s.isOn = true → s.values.reserved = s.clocks.countP (·.2.reserved)
  free : s.isOn = true → s.values.used + s.values.reserved ≤ 8192
  clocks : s.isOn = true → ∀ x ∈ s.clocks, x.2.Reserves

/-- Place `k` holds an entry of the journal's held range (R150). -/
def State.heldPlace (s : State) (k : Nat) : Prop :=
  ∃ i, i < s.values.used ∧ k = (s.values.oldestPlace + i) % 8192

/-! ## Conditions of single commands -/

/-- The part takes commands on port `p`, and no transfer is open on it. -/
structure State.Ready (s : State) (p : Port) : Prop where
  on : s.isOn = true
  idle : (s.port p).xfer = none

/-- The rest of the part is as it was: everything but the clock table, the presentation unit, the desk-line controller,
the ports and the journal. -/
structure SameRecords (s t : State) : Prop where
  lots : t.lots = s.lots
  accounts : t.accounts = s.accounts
  change : t.change = s.change
  yard : t.yard = s.yard
  sense : t.sense = s.sense
  rotation : t.rotation = s.rotation
  fees : t.fees = s.fees
  desks : t.desks = s.desks
  floorTime : t.floorTime = s.floorTime
  power : t.power = s.power
  pending : t.pending = s.pending

/-! ## Shapes that several statements share -/

/-- A train under way, stopped where it stands with the segments `taken` taken in (R39, R46). -/
def Train.halted (r : Train) (taken : List Nat) : Train :=
  { r with
    state := .stopped, occupied := r.occupied ++ taken, move := none, cause := none, timer := none
    head := match taken.getLast? with
      | none => r.head
      | some g => some g }

/-- A clock that has let go of its lot and is IDLE (R68), holding the position last stood at (R65, log entry 18). -/
def Clock.released (k : Clock) : Clock :=
  { k with
    state := .idle, lot := none, startPrice := none, reserve := none, position := none, nextStart := none
    winner := none, waitHalt := none, timer := none
    stood := match k.position with
      | none => k.stood
      | some n => some n }

/-- A clock whose rehearsal run has ended: IDLE, with the mark, S, M and c cleared (R86). -/
def Clock.rehearsed (k : Clock) : Clock :=
  { k with
    state := .idle, rehearsalRun := false, startPrice := none, reserve := none, position := none
    pausePending := false, cause := none, winner := none, waitHalt := none, timer := none }

/-- A clock that has become PAUSED with a cause and a next-run start position (R78, R79). -/
def Clock.pausedAt (k : Clock) (start : Nat) (cause : PauseCause) : Clock :=
  { k with
    state := .paused, cause := some cause, nextStart := some start, pausePending := false, timer := none
    waitHalt := none }

/-- A clock with pause-pending set; set again while set, the first cause is kept (R79). -/
def Clock.pausing (k : Clock) (cause : PauseCause) : Clock :=
  if k.pausePending then k else { k with pausePending := true, cause := some cause }

/-- The HALT frame of clock `c` at position `n` (R77). -/
def State.haltFrame (s : State) (c : Nat) (reason : HaltReason) (n : Nat) : OutFrame :=
  .halt c (s.clock c).tag reason n ((s.clock c).startPrice.getD 0 - n * (s.clock c).set.step)

/-- The HALT frame of clock `c` at position `n` stands behind the outbound queue (R77). -/
def State.haltSent (s : State) (c : Nat) (reason : HaltReason) (n : Nat) : State :=
  s.setOutbound (s.line.outbound ++ [{ frame := s.haltFrame c reason n, sent := 0 }])

/-- The clock and the lot that an ANNOUNCE names; none for another frame. -/
def OutFrame.announces : OutFrame → Option (Nat × Nat)
  | .announce c _ l _ _ _ _ _ _ _ => some (c, l)
  | .run _ _ _ _ _ _ _ _ | .halt _ _ _ _ _ | .sale _ _ _ _ _ _ _ _ _ _ | .reply _ _ _ _ _ => none

/-- The HALT or SALE frame `f` has been placed in the outbound queue of `s`, which leaves `v` (R171, R172): it stands
behind a queue with a free place, or it takes the place of the oldest ANNOUNCE of a full queue that is not on the line,
which is told to the presentation unit (R51). -/
def State.Placed (s : State) (f : OutFrame) (v : State) : Prop :=
  let p : OutPlace := { frame := f, sent := 0 }
  s.line.outbound.length < 16 ∧ v = s.setOutbound (s.line.outbound ++ [p]) ∨
  16 ≤ s.line.outbound.length ∧ ∃ before x behind c l, s.line.outbound = before ++ x :: behind ∧
    x.frame.announces = some (c, l) ∧ (s.headOnLine = true → before ≠ []) ∧
    (∀ y ∈ if s.headOnLine then before.tail else before, y.frame.announces = none) ∧
    v = (s.setOutbound (before ++ behind ++ [p])).displaced c l

/-- The HALT frame of clock `c` at position `n` has been placed, which leaves `v` (R77). -/
def State.HaltPlaced (s : State) (c : Nat) (reason : HaltReason) (n : Nat) (v : State) : Prop :=
  s.Placed (s.haltFrame c reason n) v

/-- A HALT, SALE or REPLY finds no place: the outbound queue is full, and no ANNOUNCE in it can be displaced (R172). -/
structure State.NoPlace (s : State) : Prop where
  full : 16 ≤ s.line.outbound.length
  kept : displaceFrom s.headOnLine s.line.outbound = none

/-- Clock `c` does not wait for an outbound place. -/
def State.NotWaiting (s : State) (c : Nat) : Prop := ∀ e ∈ s.line.waits, e.who ≠ .clock c

/-- A journal entry can be reserved for clock `c`: it holds a reservation, or one is free (R71). -/
def State.CanReserve (s : State) (c : Nat) : Prop :=
  (s.clock c).reserved = true ∨ s.values.used + s.values.reserved < 8192

/-- What `v` holds when every block of `s` has taken its floor-reset values (R195), before the presentation unit starts
afresh: the lots of R17, the trains and segments of R46, the clocks of R91, the accounts of R148, empty queues of R63 and
R179, and the transfers of R186 aborted. -/
structure FloorRested (s v : State) : Prop where
  lots : ∀ k, v.lot k = (s.lot k).map fun r =>
    if r.state = .onTrain ∨ r.state = .queued ∨ r.state = .announced ∨ r.state = .onClock then
      { r with state := .onTrain, clock := none }
    else r
  accounts : v.accounts = (State.each (fun c q =>
    match (s.clock c).winner with
    | none => q
    | some w =>
      match w.buyer with
      | none => q
      | some b =>
        if (s.clock c).state = .settling ∨ (s.clock c).state = .held then q.releaseHold b w.hold else q)
    (List.range 6) s).accounts
  journal : v.journal =
    let n := (List.range 6).countP fun c => (s.clock c).reserved
    if n = 0 then s.journal else (s.setValues { s.values with reserved := s.values.reserved - n }).journal
  segs : ∀ g, v.seg g =
    match (s.seg g).state with
    | .reserved n =>
      if (s.train n).state = .moving ∨ (s.train n).state = .stalled then
        { s.seg g with state := if g ∈ s.takenIn n then .occupied n else .free }
      else s.seg g
    | .fault (some n) =>
      if (s.train n).state = .moving ∨ (s.train n).state = .stalled then { s.seg g with state := .fault none }
      else s.seg g
    | .free | .occupied _ | .fault none => s.seg g
  trains : ∀ n,
    (((s.train n).state = .moving ∨ (s.train n).state = .stalled) → v.train n = (s.train n).halted (s.takenIn n)) ∧
    (∀ q, (s.train n).state = .queued → (s.train n).prior = some q →
      v.train n = { s.train n with state := q.state, move := none, prior := none }) ∧
    ((s.train n).state ≠ .moving → (s.train n).state ≠ .stalled → (s.train n).state ≠ .queued →
      v.train n = s.train n)
  yard : v.yard = { s.yard with segs := v.yard.segs, trains := v.yard.trains, moves := [], windows := [] }
  clocks : ∀ c, v.clock c =
    if c < 6 then
      { Clock.reset with
        set := (s.clock c).set, rehearsal := (s.clock c).rehearsal, tag := (s.clock c).tag
        responses := (s.clock c).responses }
    else s.clock c
  presentation : v.pres = [] ∧ v.rotation = 0
  line : v.line =
    { s.line with
      inbound := [], outbound := [], waits := [], sending := s.line.sending.map fun x => { x with orphan := true } }
  ports : v.ports = (((s.abortTransfer .auc).abortTransfer .yrd).abortTransfer .fin).ports
  rest : v.change = s.change ∧ v.sense = s.sense ∧ v.fees = s.fees ∧ v.desks = s.desks ∧ v.floorTime = s.floorTime ∧
    v.power = s.power ∧ v.pending = s.pending

/-- The tests of R97 and R98 on desk `d`, its buyer and the hold of Emin stems of lot `r` at a price fail with a reply code:
NOT_SIGNED_IN, SUSPENDED, or CREDIT. -/
def State.StopFails (s : State) (d : Nat) (r : LotRec) (price : Nat) (code : DeskCode) : Prop :=
  (s.desk d).buyer = none ∧ code = .notSignedIn ∨
  ∃ b, (s.desk d).buyer = some b ∧
    ((s.acct b).state ≠ .active ∧ code = .suspended ∨
      (s.acct b).state = .active ∧ code = .credit ∧
        ((s.acct b).isOver = true ∨
          creditPasses (s.acct b) (price * min (r.minTake * r.unit) r.remaining +
            feeOf (s.fee (s.acct b).feeClass) price (min (r.minTake * r.unit) r.remaining)) = false))

/-- A train that is under way: MOVING or STALLED (R20). -/
def Train.underWay (r : Train) : Bool := r.state == .moving || r.state == .stalled

/-! ## What a begin and a commit leave -/

/-- The start price and the reserve of a run on lot `r`: the lot's start price, or the reserve plus the setting's span
of steps, clamped into the reserve to 99,999 (R69). -/
def runStart (k : Clock) (r : LotRec) : Nat :=
  max r.reserve (min 99999 (match r.startPrice with
    | none => r.reserve + k.set.span * k.set.step
    | some x => x))

/-- Clock `c` has begun a run with start price `price`, reserve `reserve` and start position `start` (R71): what the
clock, the journal, the presentation unit, the outbound queue and the ports of `t` hold, and that the rest is as in `s`. The
one notice is JOURNAL_LOW, when the begin takes a reservation and used plus reserved is then 7,936 or more (R153). -/
structure RunBegun (s t : State) (c price reserve start : Nat) (rehearsal : Bool) : Prop where
  clock : t.clock c =
    { s.clock c with
      state := .running, tag := ((s.clock c).tag + 1) % 256, position := some start, startPrice := some price
      reserve := some reserve, nextStart := none, cause := none, waitBegin := none
      timer := some (s.clock c).set.interval, rehearsalRun := rehearsal
      reserved := if rehearsal then (s.clock c).reserved else true
      lastSold :=
        if rehearsal then (s.clock c).lastSold
        else if (s.clock c).lastSold = (s.clock c).lot then (s.clock c).lastSold else none }
  others : ∀ d, d ≠ c → t.clock d = s.clock d
  frame : t.line = { s.line with outbound := s.line.outbound ++
    [{ frame := .run c (((s.clock c).tag + 1) % 256) price (s.clock c).set.step (s.clock c).set.interval start reserve
         rehearsal
       sent := 0 }] }
  journal : t.journal =
    if rehearsal = true ∨ (s.clock c).reserved = true then s.journal
    else (s.setValues { s.values with reserved := s.values.reserved + 1 }).journal
  ports : t.ports =
    let n := s.values.used + s.values.reserved + 1
    if rehearsal = true ∨ (s.clock c).reserved = true ∨ n < 7936 then s.ports
    else ((s.raise .fin .journalLow (.number (8192 - n))).raise .auc .journalLow (.number (8192 - n))).ports
  pending : t.presOf c = { s.presOf c with pending := none, ready := none, unrun := false }
  queues : ∀ d, d ≠ c → t.presOf d = s.presOf d
  rest : SameRecords s t

/-- The journal entry of a purchase of `q` stems on clock `c` by the winner `w` for buyer `b`, in fee class `f` (R110,
R149), less its check field. -/
def purchaseEntry (s : State) (c l : Nat) (r : LotRec) (w : Winner) (b q : Nat) (f : FeeClass) : JEntry :=
  { seq := s.nextSeq, kind := .purchase, clock := c, time := s.floorTime, lot := l, catalogue := r.catalogue, buyer := b
    desk := w.desk, tag := (s.clock c).tag, position := w.position, price := w.price, stems := q
    gross := w.price * q, fee := feeOf f w.price q, net := w.price * q + feeOf f w.price q, voided := none, check := 0
    damaged := false }

/-- The sale of lot `l` to the winner `w` of clock `c`, buyer `b`, has been committed at `q` stems (R5, R110): what the
lot, the journal, the account and the clock of `t` hold, and what is as in `s`. `v` is what the placing of its SALE frame
left, on which QUANTITY_SET is offered to the winner's desk. A DAMAGED account is booked nothing (R137). -/
structure SaleCommitted (s v t : State) (c l : Nat) (r : LotRec) (w : Winner) (b q : Nat) : Prop where
  lot : ∃ z, t.lots = (s.setLot l (some z)).lots ∧
    z.purchases = r.purchases ++
      [{ buyer := b, desk := w.desk, stems := q, price := w.price, position := w.position
         net := w.price * q + feeOf (s.fee (s.acct b).feeClass) w.price q, seq := s.nextSeq }] ∧
    z.remaining = r.remaining - q ∧ z.lastSeq = some s.nextSeq ∧
    z.state = (if r.remaining - q = 0 then .soldOut else if 16 ≤ r.purchases.length + 1 then .partSold else .onClock) ∧
    z.clock = (if z.state = .onClock then r.clock else none) ∧ z.total = r.total ∧ z.catalogue = r.catalogue ∧
    z.runouts = r.runouts ∧ z.train = r.train
  entry : t.place ((s.values.oldestPlace + s.values.used) % 8192) =
    let e := purchaseEntry s c l r w b q (s.fee (s.acct b).feeClass)
    some { e with check := entryCheck e }
  places : ∀ k, k ≠ (s.values.oldestPlace + s.values.used) % 8192 → t.place k = s.place k
  values : t.values =
    { s.values with
      used := s.values.used + 1, newest := some s.nextSeq
      reserved := s.values.reserved - if (s.clock c).reserved then 1 else 0 }
  account : ∃ z, t.accounts = (s.setAcct b z).accounts ∧
    z.heldAmt = max 0 ((s.acct b).heldAmt - w.hold) ∧ z.billedAmt = (s.acct b).billedAmt ∧ z.limit = (s.acct b).limit ∧
    z.desk = (s.acct b).desk ∧
    ((s.acct b).state ≠ .damaged →
      z.openAmt =
        saturate ((s.acct b).openAmt + ((w.price * q + feeOf (s.fee (s.acct b).feeClass) w.price q : Nat) : Int)) ∧
      z.lastSeq = some s.nextSeq ∧ z.entryCount = min ((s.acct b).entryCount + 1) 4294967295 ∧
      (z.limit < z.openAmt + z.billedAmt + z.heldAmt → z.isOver = true)) ∧
    ((s.acct b).state = .damaged →
      z.openAmt = (s.acct b).openAmt ∧ z.lastSeq = (s.acct b).lastSeq ∧ z.entryCount = (s.acct b).entryCount)
  clock : t.clock c =
    { s.clock c with reserved := false, winner := none, lastSold := some l, timer := none }
  others : ∀ d, d ≠ c → t.clock d = s.clock d
  sold : (t.flag .auc 2).pending = true ∧ (t.flag .auc 2).detail = .number c
  frames : t.line = (v.offerReply w.desk .quantitySet (some c) (s.clock c).tag (.sold q w.position w.price)).line
  rest : t.desks = s.desks ∧ t.fees = s.fees ∧ t.yard.segs = s.yard.segs ∧ t.floorTime = s.floorTime ∧ t.power = s.power

end Sys2Proof.Machine
end

