-- ==== Sys2Proof/Certificates/Slice0/Obligations.lean ====
section
/-! DEFINITION. Certificates/Slice0/Obligations.lean: the statements for the provers. A result is stated as the next
state in full, or as what the next state holds and what it leaves; `putReply p t code fields` is the reply in the slot of
port `p` (R181), and every field that a statement does not name is as it was. -/

open Sys2Proof Sys2Proof.Machine

/-! ## The step, the queue of commands, and reset -/

/-- A step takes the command at the front of the queue and is exec of it with the queue's rest. -/
def Obligations.StepTakesTheFrontCommand : Prop :=
  ∀ (c : Instr) (rest : List Instr) (s : State), step (s.withPending (c :: rest)) = exec c (s.withPending rest)

/-- Every command of the part completes, whatever the part holds, and leaves the queue of commands as it is. -/
def Obligations.EveryCommandLeavesTheCommandQueue : Prop :=
  ∀ (c : Instr) (s : State), ∃ t, exec c s = .next t ∧ t.pending = s.pending

/-- The reset state is what the power-up sequence makes of a part that starts with an empty retained store (log entries 1
and 2), and every invariant below holds of it. -/
def Obligations.ResetIsAPowerUpAndMeetsTheInvariants : Prop :=
  (exec .powerUpSequence
      { State.reset with
        ports := Ports.reset, power := { monitor := .starting, level := .good, resetActive := false } } =
    .next State.reset) ∧
  (State.reset.QueuesFit ∧ State.reset.RepliesAhead ∧ State.reset.TablesWf ∧ State.reset.LotsAddUp ∧
    State.reset.OverHolds ∧ State.reset.BindingsAgree ∧ State.reset.ReservationsHold)

/-! ## What every step keeps -/

/-- R28, R31, R47, R170, R171: no queue outgrows its places, and in the outbound queue the replies stand ahead of the
broadcasts, behind a head that has been begun. -/
def Obligations.EveryStepKeepsTheQueues : Prop :=
  (∀ s t : State, s.QueuesFit → step s = .next t → t.QueuesFit) ∧
  (∀ s t : State, s.RepliesAhead → step s = .next t → t.RepliesAhead)

/-- Every table stays in its canonical form, so that equal parts are equal data. -/
def Obligations.EveryStepKeepsTheTablesCanonical : Prop :=
  ∀ s t : State, s.TablesWf → step s = .next t → t.TablesWf

/-- R7, for every command but a return of the supply, whose retained store is given from outside (log entry 8). -/
def Obligations.PurchasedAndRemainingStemsEqualTheTotal : Prop :=
  ∀ s t : State, (∀ l rest, s.pending ≠ .supplyReturn l :: rest) → s.LotsAddUp → step s = .next t → t.LotsAddUp

/-- R130: an account whose OVER flag is clear stands within its credit limit. -/
def Obligations.AccountsNotOverStandWithinTheirLimit : Prop :=
  ∀ s t : State, s.OverHolds → step s = .next t → t.OverHolds

/-- R143: a binding is held on both sides. -/
def Obligations.BindingsStandOnBothSides : Prop :=
  ∀ s t : State, s.BindingsAgree → step s = .next t → t.BindingsAgree

/-- R151: used plus reserved never exceeds 8192, and reserved is the number of clocks that hold a reservation. -/
def Obligations.JournalReservationsMatchTheClocks : Prop :=
  ∀ s t : State, (∀ l rest, s.pending ≠ .supplyReturn l :: rest) → s.ReservationsHold → step s = .next t →
    t.ReservationsHold

/-- R149: an entry is not changed after it has been written: a held place that is still held after a command reads as it
did. The power-up sequence, which marks entries DAMAGED, and the return of the supply are left out. -/
def Obligations.HeldJournalEntriesAreNotChanged : Prop :=
  ∀ (c : Instr) (s t : State), c ≠ .powerUpSequence → (∀ l, c ≠ .supplyReturn l) → s.ReservationsHold →
    s.isOn = true → exec c s = .next t → ∀ k, s.heldPlace k → t.heldPlace k → t.place k = s.place k

/-! ## Ports, frames and roles -/

/-- R182: a command given on a port that its role does not admit is answered NOT_PERMITTED, and nothing else changes. -/
def Obligations.CommandsOfAnotherRoleAreRefused : Prop :=
  ∀ (c : Instr) (s : State) (p r : Port) (t : Nat), c.given = some (p, t) → c.role = some r → r ≠ p → s.Ready p →
    exec c s = .next (s.putReply p t .notPermitted [])

/-- R160, R192: a part that is halted or starting takes no command, no desk frame and no event of a timer. -/
def Obligations.PartThatIsNotOnTakesNothing : Prop :=
  ∀ (c : Instr) (s : State), s.isOn = false →
    (c.given.isSome = true ∨
      c ∈ [.invoiceWalkStep, .stop, .quantity, .signIn, .signOut, .statusAsk, .malformedFrameDiscard,
        .frameSendBegin, .floorTimeMillisecond] ∨
      (∃ n, c ∈ [.pendingStartDue n, .stepTimerExpiry n, .settleExpiry n, .holdTimerExpiry n, .restartTimerExpiry n,
        .launchWindowAgeOut n, .transitTimerExpiry n, .senseFilterExpiry n]) ∨
      ∃ f, c = .deskFrameReceive f) →
    exec c s = .next s

/-- R186: a command other than DATA on a port whose transfer is open aborts the transfer before it is judged. -/
def Obligations.OpenTransferIsAbortedBeforeTheCommand : Prop :=
  ∀ (c : Instr) (s : State) (p : Port) (t : Nat) (x : Xfer), c.given = some (p, t) →
    (∀ q n u, c ≠ .data q n u) → s.isOn = true → (s.port p).xfer = some x →
    let a := (s.setPort p
      { s.port p with
        xfer := none, busy := false, last := some { complete := false, kind := x.kind, done := x.done } }).raise
      .sup .commandAborted (.aborted p x.done)
    exec c s = exec c a ∧ a.Ready p

/-- A record number outside its table is answered NO_RECORD and changes nothing (00 section 6, R10 to R12, R21, R24,
R25, R27, R40, R89, R132 to R135, R143, R146, R187 and the commands of each clock). A refused lot or segment record
names its slot or segment, and still counts as a unit of its transfer (R185, R197); a refused first record of LOT_WRITE
opens the transfer of a count of 2 or more (log entry 36). That a segment record with a number above 127 is answered
NO_RECORD whatever its kind, parameter, power group or entry edge is log entry 20. -/
def Obligations.NumbersOutsideTheirTableAreRefused : Prop :=
  ∀ (s : State) (t n : Nat),
    (s.Ready .sup →
      (4096 ≤ n → ∀ c ∈ [Instr.lotWithdraw .sup t n, .lotRelease .sup t n],
        exec c s = .next (s.putReply .sup t .noRecord [])) ∧
      (∀ r count, 4096 ≤ r.slot →
        let units := max 1 (min 4096 count)
        exec (.lotWrite .sup t count r) s =
          .next ((if 2 ≤ units then
              s.setPort .sup
                { s.port .sup with
                  xfer := some { kind := .lotWrite, expected := some units, done := 1, next := 0 }, busy := true }
            else s).putReply .sup t .noRecord (u2 r.slot))) ∧
      (128 ≤ n → exec (.segmentClear .sup t n) s = .next (s.putReply .sup t .noRecord [])) ∧
      (1024 ≤ n → ∀ r, exec (.accountWrite .sup t n r) s = .next (s.putReply .sup t .noRecord [])) ∧
      (4 ≤ n → ∀ a b d, exec (.feeClassWrite .sup t n a b d) s = .next (s.putReply .sup t .noRecord [])) ∧
      (n = 0 ∨ 512 ≤ n → exec (.deskUnbind .sup t n) s = .next (s.putReply .sup t .noRecord []))) ∧
    (∀ p f, s.isOn = true → (s.port p).xfer = some f →
      let counted := if f.expected = some (f.done + 1) then
          s.setPort p
            { s.port p with
              xfer := none, busy := false, last := some { complete := true, kind := f.kind, done := f.done + 1 } }
        else s.setPort p { s.port p with xfer := some { f with done := f.done + 1 }, busy := true }
      (∀ r, f.kind = .lotWrite → 4096 ≤ r.slot →
        exec (.data p t (.lot r)) s = .next (counted.putReply p t .noRecord (u2 r.slot))) ∧
      (∀ r, f.kind = .layoutWrite → s.underWay = false → (128 ≤ r.segment ∨ ∃ g ∈ r.succ, 128 ≤ g) →
        exec (.data p t (.segment r)) s = .next (counted.putReply p t .noRecord (u2 r.segment)))) ∧
    (s.Ready .auc → 6 ≤ n → ∀ r b,
      ∀ c ∈ [Instr.clockSet .auc t n r, .clockMode .auc t n b, .clockLoad .auc t n, .clockStart .auc t n,
        .clockPause .auc t n, .clockResume .auc t n, .clockSkip .auc t n, .voidLast .auc t n, .rehearsalRun .auc t n,
        .rehearsalClear .auc t n, .rehearsalReport .auc t n],
        exec c s = .next (s.putReply .auc t .noRecord [])) ∧
    (s.Ready .yrd →
      (64 ≤ n → ∀ g l,
        ∀ c ∈ [Instr.trainForm .yrd t n g l, .trainDisband .yrd t n, .trainMove .yrd t n l, .moveRetry .yrd t n,
          .moveCancel .yrd t n, .distRead .yrd t n g],
          exec c s = .next (s.putReply .yrd t .noRecord [])) ∧
      (∀ g l, (128 ≤ g ∨ ∃ k ∈ l, 4096 ≤ k) →
        exec (.trainForm .yrd t n g l) s = .next (s.putReply .yrd t .noRecord [])) ∧
      (∀ l, (∃ g ∈ l, 128 ≤ g) → exec (.trainMove .yrd t n l) s = .next (s.putReply .yrd t .noRecord []))) ∧
    (s.Ready .fin → 1024 ≤ n → ∀ a,
      ∀ c ∈ [Instr.invoiceClose .fin t n, .paymentPost .fin t n a],
        exec c s = .next (s.putReply .fin t .noRecord [])) ∧
    (∀ p g, s.Ready p →
      (4096 ≤ n → exec (.lotRead p t n g) s = .next (s.putReply p t .noRecord [])) ∧
      (64 ≤ n → exec (.trainRead p t n) s = .next (s.putReply p t .noRecord [])) ∧
      (6 ≤ n → exec (.clockRead p t n g) s = .next (s.putReply p t .noRecord [])) ∧
      (1024 ≤ n → exec (.accountRead p t n) s = .next (s.putReply p t .noRecord [])) ∧
      (n = 0 ∨ 512 ≤ n → exec (.deskRead p t n) s = .next (s.putReply p t .noRecord [])) ∧
      (4 ≤ n → exec (.portStatus p t n) s = .next (s.putReply p t .noRecord [])))

/-- R196, R197: the command frame written for a well-formed command reads back as that command, with every field at
every value that its bytes admit. -/
def Obligations.FrameOfACommandReadsBackAsTheCommand : Prop :=
  ∀ (c : Instr) (p : Port) (t : Nat) (want : Option Nat) (bytes : List Byte), c.given = some (p, t) →
    c.wellFormed = true → encodeFrame c = some bytes →
    ((∃ u, c = .data p t u) → want = none ∨ want = some (bytes.length - 3)) →
    decodeFrame p want bytes = .command c

/-- R182, R197: a frame that is cut short or whose length byte disagrees is discarded; a code outside the list of R196 is
taken as UNKNOWN_COMMAND whatever its length, and answered so. That a frame which more bytes follow in its exchange is
discarded whole is log entry 64. -/
def Obligations.UndefinedCodesAndBrokenFrames : Prop :=
  (∀ (p : Port) (want : Option Nat) (b : List Byte), b.length < 3 → decodeFrame p want b = .discarded) ∧
  (∀ (p : Port) (want : Option Nat) (code t n : Byte) (fs : List Byte), fs.length ≠ n.toNat →
    decodeFrame p want (code :: t :: n :: fs) = .discarded) ∧
  (∀ (p : Port) (want : Option Nat) (code t n : Byte) (fs : List Byte), fs.length = n.toNat →
    (code.toNat < 0x10 ∨ 0x1A < code.toNat ∧ code.toNat < 0x20 ∨ 0x2A < code.toNat ∧ code.toNat < 0x30 ∨
      0x35 < code.toNat ∧ code.toNat < 0x40 ∨ 0x44 < code.toNat ∧ code.toNat < 0x50 ∨
      0x58 < code.toNat ∧ code.toNat < 0x5F ∨ 0x5F < code.toNat) →
    decodeFrame p want (code :: t :: n :: fs) = .command (.unknownCommand p t.toNat)) ∧
  (∀ (s : State) (p : Port) (t : Nat), s.Ready p →
    exec (.unknownCommand p t) s = .next (s.putReply p t .unknownCommand []))

/-- R181: an exchange returns the status summary and the reply slot as they stand, and takes the one command that its
frame spells, or none. A part that starts returns the same and takes nothing (R192); a halted part returns nothing
(R160). -/
def Obligations.ExchangeReturnsTheReplyAndTakesOneFrame : Prop :=
  ∀ (s : State) (p : Port) (b : List Byte),
    let u := s.setPort p { s.port p with mailbox := [], returned := s.returnedBytes p }
    let read := decodeFrame p ((s.port p).xfer.map (·.kind.unitLength)) b
    (s.isOn = true → b = [] ∨ read = .discarded → exec (.portExchange p b) s = .next u) ∧
    (s.isOn = true → b ≠ [] → ∀ c, read = .command c →
      ∃ t, exec (.portExchange p b) s = .next t ∧ exec c u = .next t) ∧
    (s.power.monitor = .starting →
      exec (.portExchange p b) s = .next (s.setPort p { s.port p with returned := s.returnedBytes p })) ∧
    (s.power.monitor = .off → exec (.portExchange p b) s = .next (s.setPort p { s.port p with returned := [] }))

/-! ## SUP -/

/-- R10: a lot record for a slot that is FREE, or REGISTERED with no purchase, is clamped and stored, REGISTERED with
all its stems remaining; another slot answers WRONG_STATE. A count of 2 or more opens the transfer (R184). That the
reply gives the clamped count ahead of the stored values, and for a refused record its slot alone, is log entry 36. -/
def Obligations.LotWriteStoresTheClampedLot : Prop :=
  ∀ (s : State) (t count : Nat) (r : LotFields), s.Ready .sup → r.slot < 4096 →
    let n := max 1 (min 4096 count)
    let total := max 1 (min 60000 r.total)
    let v : LotFields :=
      { slot := r.slot, catalogue := r.catalogue, total := total, unit := max 1 (min total r.unit)
        minTake := max 1 (min 99 r.minTake), reserve := max 1 (min 99999 r.reserve)
        startPrice := r.startPrice.map fun x => max 1 (min 99999 x), reofferLimit := min 3 r.reofferLimit }
    let lot : LotRec :=
      { state := .registered, catalogue := v.catalogue, total := v.total, remaining := v.total, unit := v.unit
        minTake := v.minTake, reserve := v.reserve, startPrice := v.startPrice, reofferLimit := v.reofferLimit
        runouts := 0, purchases := [], train := none, clock := none, lastSeq := none }
    let opened := fun u : State =>
      if 2 ≤ n then
        u.setPort .sup
          { u.port .sup with xfer := some { kind := .lotWrite, expected := some n, done := 1, next := 0 }, busy := true }
      else u
    ((s.lot r.slot = none ∨ ∃ q, s.lot r.slot = some q ∧ q.state = .registered ∧ q.purchases = []) →
      exec (.lotWrite .sup t count r) s =
        .next ((opened (s.setLot r.slot (some lot))).putReply .sup t .ok (u2 n ++ v.bytes))) ∧
    (∀ q, s.lot r.slot = some q → (q.state ≠ .registered ∨ q.purchases ≠ []) →
      exec (.lotWrite .sup t count r) s = .next ((opened s).putReply .sup t .wrongState (u2 r.slot)))

/-- R11, R12, R7: LOT_WITHDRAW closes an open lot that is on no clock, WITHDRAWN when it has no purchase and PART_SOLD
otherwise; a queued or announced lot leaves its queue, and the presentation unit acts on what moved. LOT_RELEASE returns
a closed lot's slot to FREE when it is on no train and its last journal entry has been released. Other lots answer
WRONG_STATE. -/
def Obligations.LotsAreWithdrawnAndReleased : Prop :=
  (∀ (s : State) (t k : Nat), s.Ready .sup → k < 4096 →
    ((s.lot k = none ∨ ∃ r, s.lot k = some r ∧ (r.state = .onClock ∨ r.state.closed = true)) →
      exec (.lotWithdraw .sup t k) s = .next (s.putReply .sup t .wrongState [])) ∧
    (∀ r, s.lot k = some r → r.state ≠ .onClock → r.state.closed = false →
      let q : LotState := if r.purchases = [] then .withdrawn else .partSold
      let u := (s.setLot k (some { r with state := q, clock := none })).reportClosure r.train
      ((r.state = .registered ∨ r.state = .onTrain ∨ r.clock = none) →
        exec (.lotWithdraw .sup t k) s = .next (u.putReply .sup t .ok [if r.purchases = [] then 9#8 else 7#8])) ∧
      (∀ c, (r.state = .queued ∨ r.state = .announced) → r.clock = some c →
        exec (.lotWithdraw .sup t k) s =
          .next ((((u.setPres c { u.presOf c with queue := (u.presOf c).queue.filter fun e => e.lot ≠ k }).fill
            c).settle).putReply .sup t .ok [if r.purchases = [] then 9#8 else 7#8])))) ∧
  (∀ (s : State) (t k : Nat), s.Ready .sup → k < 4096 →
    (∀ r, s.lot k = some r → r.state.closed = true → r.train = none →
      (∀ q, r.lastSeq = some q → s.values.holds q = false) →
      exec (.lotRelease .sup t k) s = .next ((s.setLot k none).putReply .sup t .ok [])) ∧
    ((s.lot k = none ∨ ∃ r, s.lot k = some r ∧
        (r.state.closed = false ∨ r.train ≠ none ∨ ∃ q, r.lastSeq = some q ∧ s.values.holds q = true)) →
      exec (.lotRelease .sup t k) s = .next (s.putReply .sup t .wrongState [])))

/-- R20, R31, R40: LAYOUT_WRITE clamps and stores the two whole-yard times, drops launch times that a shorter window
length has made too old, re-examines eligibility and opens the transfer of the records, but answers WRONG_STATE while a
train is under way. SEGMENT_CLEAR makes a segment in FAULT that shows vacant RESERVED by its fault reservation, or FREE
without one, and re-examines eligibility; any other segment answers WRONG_STATE. -/
def Obligations.LayoutTimesAndFaultsAreSet : Prop :=
  (∀ (s : State) (t window transit count : Nat), s.Ready .sup →
    let w := max 5 (min 120 window)
    let x := max 1 (min 60 transit)
    let n := max 1 (min 128 count)
    let timed : State :=
      { s with yard := { s.yard with
          windowLength := w, transitTimeout := x
          windows := Tab.mapAll [] (fun _ l => l.filter fun e => e.age < w * 1000) s.yard.windows } }
    let u := timed.reexamine
    (s.underWay = false →
      exec (.layoutWrite .sup t window transit count) s =
        .next ((u.setPort .sup
          { u.port .sup with
            xfer := some { kind := .layoutWrite, expected := some n, done := 0, next := 0 }
            busy := true }).putReply .sup t .ok (u1 w ++ u1 x ++ u1 n))) ∧
    (s.underWay = true →
      exec (.layoutWrite .sup t window transit count) s = .next (s.putReply .sup t .wrongState []))) ∧
  (∀ (s : State) (t g : Nat), s.Ready .sup → g < 128 →
    (∀ n, (s.seg g).state = .fault n → (s.seg g).vacant = true →
      exec (.segmentClear .sup t g) s =
        .next (((s.setSeg g { s.seg g with state := match n with | none => .free | some q => .reserved q }).reexamine
          ).putReply .sup t .ok [])) ∧
    (((∀ n, (s.seg g).state ≠ .fault n) ∨ (s.seg g).vacant = false) →
      exec (.segmentClear .sup t g) s = .next (s.putReply .sup t .wrongState [])))

/-- R133, R134, R130: a record of state ACTIVE or SUSPENDED that passes the checks is stored with its values clamped,
its amounts when it gives them, and OVER judged against the new limit. A record of state VACANT retires an account that
has no held amount and nothing open or billed, or is DAMAGED, with its desk unbound on both sides. A code above 2, and
an account that still owes, answer WRONG_STATE. The bytes of OVER and the saturation mark in the reply are log entry 54,
and that the OK for an account that is VACANT already carries its fields is log entry 57. -/
def Obligations.AccountWriteStoresOrRetires : Prop :=
  (∀ (s : State) (t b : Nat) (r : AccountFields) (q : AcctState), s.Ready .sup → b < 1024 →
    (r.state = 1 ∧ q = .active ∨ r.state = 2 ∧ q = .suspended) → r.badge ≠ 0 → s.badgeElsewhere b r.badge = false →
    ((s.acct b).heldAmt ≤ 0 ∨ (s.acct b).badge = some r.badge ∧ r.amounts = none) →
    ((s.acct b).state ≠ .damaged ∨ r.amounts ≠ none) →
    let a := s.acct b
    let kept : Account :=
      { a with
        state := q, badge := some r.badge, limit := max 0 (min 140737488355327 r.limit)
        feeClass := min 3 r.feeClass, bay := r.bay.map fun x => min 31 x }
    let w : Account := match r.amounts with
      | none => kept
      | some (o, bl) =>
        { kept with
          openAmt := max (-140737488355327) (min 140737488355327 o)
          billedAmt := max (-140737488355327) (min 140737488355327 bl)
          saturated := false, entryCount := 0, firstSeq := none, lastSeq := none }
    let above := decide (w.limit < w.openAmt + w.billedAmt + w.heldAmt)
    let z : Account := { w with isOver := if above then true else if w.saturated then w.isOver else false }
    let u := s.setAcct b z
    exec (.accountWrite .sup t b r) s =
      .next ((if above then
          (u.raise .sup .accountOver (.number b)).raise .fin .accountOver (.number b)
        else u).putReply .sup t .ok (accountFieldBytes z))) ∧
  (∀ (s : State) (t b : Nat) (r : AccountFields), s.Ready .sup → b < 1024 →
    let a := s.acct b
    (r.state = 0 → a.state ≠ .vacant →
      (a.state = .damaged ∨ a.heldAmt ≤ 0 ∧ a.openAmt = 0 ∧ a.billedAmt = 0) →
      let u := match a.desk with
        | none => s
        | some d => s.setDesk d { s.desk d with buyer := none }
      exec (.accountWrite .sup t b r) s =
        .next ((u.setAcct b Account.vacant).putReply .sup t .ok (accountFieldBytes Account.vacant))) ∧
    (r.state = 0 → a.state = .vacant →
      exec (.accountWrite .sup t b r) s = .next (s.putReply .sup t .ok (accountFieldBytes a))) ∧
    ((3 ≤ r.state ∨ r.state = 0 ∧ a.state ≠ .vacant ∧ a.state ≠ .damaged ∧
        (0 < a.heldAmt ∨ a.openAmt ≠ 0 ∨ a.billedAmt ≠ 0)) →
      exec (.accountWrite .sup t b r) s = .next (s.putReply .sup t .wrongState [])))

/-- R132, R194, R156: a fee class is stored clamped, the floor time is stored as given, and the journal's numbering
restarts only when no entry is held. -/
def Obligations.FeeClassTimeAndFormatAreStored : Prop :=
  ∀ (s : State) (t : Nat), s.Ready .sup →
    (∀ k a b d, k < 4 →
      let f : FeeClass := { stemFee := min 999 a, percentage := min 2000 b, minimum := min 100000 d }
      exec (.feeClassWrite .sup t k a b d) s =
        .next (({ s with fees := Tab.set FeeClass.zero s.fees k f }).putReply .sup t .ok
          (u2 f.stemFee ++ u2 f.percentage ++ u3 f.minimum))) ∧
    (∀ v, v < 4294967296 →
      exec (.timeSet .sup t v) s = .next (({ s with floorTime := v }).putReply .sup t .ok (u4 v))) ∧
    (s.values.used ≠ 0 → exec (.journalFormat .sup t) s = .next (s.putReply .sup t .wrongState [])) ∧
    (s.values.used = 0 → ∃ u : State, exec (.journalFormat .sup t) s = .next (u.putReply .sup t .ok []) ∧
      u.values = { s.values with newest := none } ∧ u.journal.places = s.journal.places ∧
      (s.TablesWf →
        (∀ k, u.lot k = (s.lot k).map fun r => { r with lastSeq := none }) ∧
        (∀ b, u.acct b = { s.acct b with firstSeq := none, lastSeq := none })) ∧
      u = { s with lots := u.lots, accounts := u.accounts, journal := u.journal })

/-- R146: a bound desk that wins on no clock is unbound on both sides and its buyer is named; an unbound desk changes
nothing; a desk that wins answers WINNER. That the OK for an unbound desk carries an absent buyer, FFFFh, is log entry
58. -/
def Obligations.DeskUnbindUnbindsBothSides : Prop :=
  ∀ (s : State) (t d : Nat), s.Ready .sup →
    (d = 0 ∨ 511 < d → exec (.deskUnbind .sup t d) s = .next (s.putReply .sup t .noRecord [])) ∧
    (1 ≤ d → d ≤ 511 → s.isWinner d = true → exec (.deskUnbind .sup t d) s = .next (s.putReply .sup t .winner [])) ∧
    (1 ≤ d → d ≤ 511 → s.isWinner d = false → (s.desk d).buyer = none →
      exec (.deskUnbind .sup t d) s = .next (s.putReply .sup t .ok [0xFF#8, 0xFF#8])) ∧
    (∀ b, 1 ≤ d → d ≤ 511 → s.isWinner d = false → (s.desk d).buyer = some b →
      exec (.deskUnbind .sup t d) s =
        .next (((s.setDesk d { s.desk d with buyer := none }).setAcct b { s.acct b with desk := none }).putReply
          .sup t .ok (u2 b)))

/-- R195, R17, R46, R63, R91, R148, R164, R179: what a floor reset leaves. Every block takes its floor-reset values
(`FloorRested`); then the yard controller names its presenting trains again, and the presentation unit fills, announces
and loads in the same step (log entry 15), which changes the lots of the queues, the queues, the clocks that load, the
outbound queue and the notices of R55, R58 and R153 alone; that such a load can begin a run, which takes a reservation,
is log entry 52. Where no clock has auto-advance every clock stays IDLE with its run tag kept. The open transfers are
aborted in the order AUC, YRD, FIN (log entry 60). -/
def Obligations.FloorResetBringsThePartToRest : Prop :=
  (∀ (s : State) (t : Nat), s.Ready .sup → s.TablesWf →
    ∃ v u : State, FloorRested s v ∧ u = (State.each State.renameTrain v.trainNumbers v).settle ∧
      exec (.floorReset .sup t) s = .next (u.putReply .sup t .ok []) ∧
      (∀ c, c < 6 → (u.clock c).set = (s.clock c).set ∧ (u.clock c).rehearsal = (s.clock c).rehearsal ∧
        (u.clock c).responses = (s.clock c).responses) ∧
      ((∀ c, c < 6 → (s.clock c).set.autoAdvance = false) → ∀ c, c < 6 → u.clock c = v.clock c) ∧
      (∀ n, (u.train n).state ≠ .moving ∧ (u.train n).state ≠ .stalled ∧ (u.train n).state ≠ .queued) ∧
      u.yard = v.yard ∧ u.accounts = v.accounts ∧ u.fees = s.fees ∧ u.desks = s.desks ∧ u.floorTime = s.floorTime ∧
      u.sense = s.sense ∧ u.power = s.power ∧ u.change = s.change ∧ u.journal.places = s.journal.places ∧
      u.values.used = s.values.used ∧ u.values.newest = s.values.newest ∧ u.line.inbound = [] ∧
      u.line.sending = v.line.sending ∧ u.port .sup = v.port .sup ∧ u.port .yrd = v.port .yrd ∧
      u.port .auc = { v.port .auc with flags := (u.port .auc).flags } ∧
      u.port .fin = { v.port .fin with flags := (u.port .fin).flags } ∧
      (∀ k, k ≠ 1 → k ≠ 4 → k ≠ 5 → u.flag .auc k = v.flag .auc k) ∧ (∀ k, k ≠ 1 → u.flag .fin k = v.flag .fin k)) ∧
  (∀ (s : State) (n : Nat),
    (∀ c, (s.train n).state = .presenting → (s.train n).clock = some c →
      State.renameTrain n s = (s.setPres c { s.presOf c with train := some n }).fill c) ∧
    (((s.train n).state ≠ .presenting ∨ (s.train n).clock = none) → State.renameTrain n s = s)) ∧
  (∀ (s : State) (b h : Nat),
    let a := s.acct b
    let held := max 0 (a.heldAmt - h)
    s.releaseHold b h =
      s.setAcct b
        { a with
          heldAmt := held
          isOver := if a.limit < a.openAmt + a.billedAmt + held ∨ a.saturated = true then a.isOver else false })

/-! ## AUC -/

/-- R66, R64, R67: in IDLE and LOADED CLOCK_SET clamps every setting into its range and stores it, with what the new
settings bring about; in IDLE CLOCK_MODE gives the rehearsal flag its mode, on making the last-sold lot absent, off
emptying the response set, and a waiting rehearsal begin being dropped. In the other states they answer CLOCK_BUSY. That
CLOCK_MODE with the value that the flag has changes nothing, a waiting rehearsal begin among it, is log entry 40. That
CLOCK_SET announces the lots that became due before the pending start is judged is log entry 56, and that turning
auto-advance or auto-start off keeps an AUTO pending start is log entry 63. -/
def Obligations.ClockSettingsAndModeAreStored : Prop :=
  (∀ (s : State) (t c : Nat) (r : Settings), s.Ready .auc → c < 6 →
    let v : Settings :=
      { step := max 1 (min 5000 r.step), interval := max 5 (min 250 r.interval), span := max 10 (min 99 r.span)
        grace := min 5 r.grace, settle := max 10 (min 200 r.settle), hold := max 1000 (min 15000 r.hold)
        restartDelay := max 200 (min 5000 r.restartDelay), restartRaise := min 99 r.restartRaise
        depth := max 1 (min 4 r.depth), lead := min 20000 r.lead, pause := max 200 (min 5000 r.pause)
        autoAdvance := r.autoAdvance, autoStart := r.autoStart
        rehearsalStart := max 1 (min 99999 r.rehearsalStart)
        rehearsalReserve := max 1 (min 99999 r.rehearsalReserve) }
    (((s.clock c).state = .idle ∨ (s.clock c).state = .loaded) →
      exec (.clockSet .auc t c r) s =
        .next ((((s.setClock c { s.clock c with set := v }).settle).judgeStart c).putReply .auc t .ok v.bytes)) ∧
    ((s.clock c).state ≠ .idle → (s.clock c).state ≠ .loaded →
      exec (.clockSet .auc t c r) s = .next (s.putReply .auc t .clockBusy []))) ∧
  (∀ (s : State) (t c : Nat) (on : Bool), s.Ready .auc → c < 6 →
    let k := s.clock c
    (k.state ≠ .idle → exec (.clockMode .auc t c on) s = .next (s.putReply .auc t .clockBusy [])) ∧
    (k.state = .idle → k.rehearsal = on → exec (.clockMode .auc t c on) s = .next (s.putReply .auc t .ok [])) ∧
    (k.state = .idle → k.rehearsal ≠ on →
      let u := if k.waitBegin.isSome then s.setWaits (s.line.waits.filter fun e => e.who ≠ .clock c) else s
      exec (.clockMode .auc t c on) s =
        .next (((u.setClock c
          { k with
            rehearsal := on, waitBegin := none, lastSold := if on then none else k.lastSold
            responses := if on then k.responses else [] }).settle).putReply .auc t .ok [])))

/-- R52, R48 to R51, R53, R57, R58: the announced head lot of the queue becomes the clock's current lot, with its
announce record, and the queue is filled; the checks before it answer MODE, WRONG_STATE, EMPTY and NOT_ANNOUNCED in that
order. What the presentation unit does at the end of a step that moved lots, queues or clocks: it announces the due lots
one at a time by rotation and waits for a place when one is refused, and then judges each clock for a load, an
auto-start or LOT_READY, in two passes (log entries 13 and 15). -/
def Obligations.ClockLoadTakesTheHeadLot : Prop :=
  ∀ (s : State),
    (∀ t c, s.Ready .auc → c < 6 →
      let k := s.clock c
      let p := s.presOf c
      (k.rehearsal = true → exec (.clockLoad .auc t c) s = .next (s.putReply .auc t .mode [])) ∧
      (k.rehearsal = false → k.state ≠ .idle →
        exec (.clockLoad .auc t c) s = .next (s.putReply .auc t .wrongState [])) ∧
      (k.rehearsal = false → k.state = .idle → p.queue = [] →
        exec (.clockLoad .auc t c) s = .next (s.putReply .auc t .empty [])) ∧
      (∀ e rest, k.rehearsal = false → k.state = .idle → p.queue = e :: rest →
        (∀ r, s.lot e.lot = some r → r.state ≠ .announced) →
        exec (.clockLoad .auc t c) s = .next (s.putReply .auc t .notAnnounced [])) ∧
      (∀ e rest r, k.rehearsal = false → k.state = .idle → p.queue = e :: rest → s.lot e.lot = some r →
        r.state = .announced →
        exec (.clockLoad .auc t c) s = .next ((s.load c).settle.putReply .auc t .ok (u2 e.lot)))) ∧
    (∀ c e rest r, (s.presOf c).queue = e :: rest → s.lot e.lot = some r →
      s.load c =
        (((s.setPres c { s.presOf c with queue := rest, current := e.announce, unrun := true, ready := none }).setLot e.lot
          (some { r with state := .onClock })).setClock c { s.clock c with state := .loaded, lot := some e.lot }).fill c) ∧
    (∀ c, (s.presOf c).train = none → s.fill c = s) ∧
    (∀ c n, (s.presOf c).train = some n → (s.train n).lots.Nodup →
      let l := ((s.train n).lots.filter fun k => s.lotIs k .onTrain).take (8 - (s.presOf c).queue.length)
      let u := s.fill c
      (∀ k, u.lot k =
        if k ∈ l then (s.lot k).map fun r => { r with state := .queued, clock := some c } else s.lot k) ∧
      u.presOf c =
        { s.presOf c with
          queue := (s.presOf c).queue ++ l.map fun k => { lot := k, origin := .train, announce := none } } ∧
      (∀ d, d ≠ c → u.presOf d = s.presOf d) ∧ u = { s with lots := u.lots, pres := u.pres }) ∧
    (∀ c,
      let k := s.clock c
      let p := s.presOf c
      (∀ l, k.lot = some l → p.unrun = true → p.current = none → s.dueOf c = some (0, l)) ∧
      ((k.lot = none ∨ p.unrun = false ∨ p.current ≠ none) →
        ((∀ e ∈ p.queue.take k.set.depth, e.announce ≠ none) → s.dueOf c = none) ∧
        (∀ before e rest, p.queue = before ++ e :: rest → before.length < k.set.depth →
          (∀ x ∈ before, x.announce ≠ none) → e.announce = none → s.dueOf c = some (before.length + 1, e.lot)))) ∧
    (s.presentationWaits = true → s.announceAll = s) ∧
    (s.presentationWaits = false → s.announceAll = State.announceUpTo 17 s) ∧
    (∀ n, (∀ c, c < 6 → s.dueOf c = none) → State.announceUpTo n s = s) ∧
    (∀ n m l i r, m < 6 → (∀ j, j < m → s.dueOf ((s.rotation + j) % 6) = none) →
      let c := (s.rotation + m) % 6
      let at0 : Announce := { time := s.floorTime, age := 0 }
      let frame := OutFrame.announce c i l r.catalogue r.remaining r.unit (r.minTake * r.unit) r.reserve r.startPrice r.runouts
      let v := { s.setOutbound (s.line.outbound ++ [{ frame := frame, sent := 0 }]) with rotation := (c + 1) % 6 }
      s.dueOf c = some (i, l) → s.lot l = some r →
      (16 ≤ s.line.outbound.length → State.announceUpTo (n + 1) s = s.joinWait .presentation .announce) ∧
      (s.line.outbound.length < 16 → i = 0 →
        State.announceUpTo (n + 1) s =
          State.announceUpTo n ((v.setPres c { s.presOf c with current := some at0 }).judgeStart c)) ∧
      (s.line.outbound.length < 16 → i ≠ 0 →
        State.announceUpTo (n + 1) s =
          State.announceUpTo n ((v.setLot l (some { r with state := .announced })).setPres c
            { s.presOf c with
              queue := (s.presOf c).queue.map fun e => if e.lot = l then { e with announce := some at0 } else e }))) ∧
    (∀ c l,
      let p := s.presOf c
      ((∃ r, s.lot l = some r ∧ r.state = .announced ∧ r.clock = some c) →
        s.displaced c l =
          s.setPres c { p with queue := p.queue.map fun e => if e.lot = l then { e with announce := none } else e }) ∧
      ((∃ r, s.lot l = some r ∧ r.state = .onClock ∧ r.clock = some c) →
        (p.unrun = true → (s.clock c).lot = some l → s.displaced c l = s.setPres c { p with current := none }) ∧
        (p.unrun = false → s.displaced c l = s)) ∧
      ((∀ r, s.lot l = some r → r.state ≠ .announced ∧ r.state ≠ .onClock) → s.displaced c l = s)) ∧
    (∀ quiet c,
      let k := s.clock c
      let p := s.presOf c
      ((k.state ≠ .idle ∨ p.queue = [] ∨ ∃ e rest, p.queue = e :: rest ∧ s.lotIs e.lot .announced = false) →
        s.advanceClock quiet c = s.setPres c { p with ready := none }) ∧
      (∀ e rest, k.state = .idle → p.queue = e :: rest → s.lotIs e.lot .announced = true →
        (k.set.autoAdvance = true → k.rehearsal = false →
          let u := s.load c
          s.advanceClock quiet c =
            if k.set.autoStart = true ∧ quiet ≠ some c then
              (u.setPres c { u.presOf c with pending := some .auto }).judgeStart c
            else u) ∧
        ((k.set.autoAdvance = false ∨ k.rehearsal = true) →
          s.advanceClock quiet c =
            if p.ready = some e.lot then s
            else (s.setPres c { p with ready := some e.lot }).raise .auc .lotReady (.number c)))) ∧
    (∀ c,
      (s.startDue c = true ↔ (s.clock c).state = .loaded ∧
        (∃ a, (s.presOf c).current = some a ∧ (s.clock c).set.lead ≤ a.age) ∧
        ((s.presOf c).pending = some .manual ∨
          (s.presOf c).pending = some .auto ∧ ∀ n, (s.presOf c).letGo = some n → (s.clock c).set.pause ≤ n)) ∧
      (s.isOn = true → exec (.pendingStartDue c) s = .next (s.judgeStart c)) ∧
      (s.startDue c = false → s.judgeStart c = s)) ∧
    (∀ quiet,
      let pass := fun (x : State) => State.each (fun c q => q.advanceClock quiet c) (List.range 6) x.announceAll
      s.settleQuiet quiet = pass (pass s)) ∧
    s.settle = s.settleQuiet none ∧
    s.judgeClocks none = State.each (fun c q => q.advanceClock none c) (List.range 6) s

/-- R71, R69, R70, R151, R153: CLOCK_START with its lead met, CLOCK_RESUME, a pending start that has come due, the
restart timer's expiry and REHEARSAL_RUN each begin the run whole while the supply, the journal and the outbound queue
allow it. The begin of a run of a lot takes a reservation unless the clock holds one, with JOURNAL_LOW to FIN and AUC
when used plus reserved is then 7,936 or more. -/
def Obligations.RunsBegin : Prop :=
  ∀ (s : State) (t c : Nat), c < 6 → s.power.monitor = .normal → s.line.outbound.length < 16 →
    let k := s.clock c
    (∀ l r, k.lot = some l → s.lot l = some r → s.CanReserve c →
      (k.state = .loaded → k.waitBegin = none → (s.port .auc).xfer = none →
        (∃ a, (s.presOf c).current = some a ∧ k.set.lead ≤ a.age) →
        ∃ u : State, exec (.clockStart .auc t c) s = .next (u.putReply .auc t .ok []) ∧
          RunBegun s u c (runStart k r) r.reserve 0 false) ∧
      (∀ n, k.state = .paused → k.waitBegin = none → k.nextStart = some n → (s.port .auc).xfer = none →
        ∃ u : State, exec (.clockResume .auc t c) s = .next (u.putReply .auc t .ok []) ∧
          RunBegun s u c (runStart k r) r.reserve n false) ∧
      (s.startDue c = true →
        ∃ u : State, exec (.pendingStartDue c) s = .next u ∧ RunBegun s u c (runStart k r) r.reserve 0 false) ∧
      (∀ n, k.state = .restartWait → k.timer = some 0 → k.pausePending = false → k.nextStart = some n →
        ∃ u : State, exec (.restartTimerExpiry c) s = .next u ∧ RunBegun s u c (runStart k r) r.reserve n false)) ∧
    (k.rehearsal = true → k.state = .idle → k.waitBegin = none → (s.port .auc).xfer = none →
      ∃ u : State, exec (.rehearsalRun .auc t c) s = .next (u.putReply .auc t .ok []) ∧
        RunBegun s u c (max k.set.rehearsalReserve (min 99999 k.set.rehearsalStart)) k.set.rehearsalReserve 0 true)

/-- R71 to R73, R54, R55: a begin that fails its supply or journal check leaves a commanded start, resume or rehearsal
run as it was, with SUPPLY or JOURNAL_FULL in the reply, drops a pending start, and leaves a restart PAUSED with cause
SUPPLY or JOURNAL, the last two with CLOCK_PAUSED to AUC. CLOCK_START with its lead unmet makes a MANUAL pending start.
A begin whose RUN frame finds no place waits in the wait list with no reservation; when its place comes it is made again
from its first check, and is then taken or fails by its kind (log entry 16). That SUPPLY and JOURNAL_FULL are answered
ahead of the OK of R73 while a begin waits, and that a CLOCK_START refused so keeps a pending start, is log entry 17.
The byte of the pending-start mark in the reply is log entry 54. -/
def Obligations.BeginsThatMayNotBeginYet : Prop :=
  ∀ (s : State) (t c : Nat), c < 6 →
    let k := s.clock c
    let full := k.reserved = false ∧ 8192 ≤ s.values.used + s.values.reserved
    let held := fun (x : State) (kind : BeginKind) (start : Nat) =>
      (((x.setClock c { x.clock c with waitBegin := some { kind := kind, start := start } }).setPres c
        { s.presOf c with pending := none }).setWaits (s.line.waits ++ [{ who := .clock c, kind := .run }]))
    ((s.port .auc).xfer = none → s.power.monitor = .low →
      (k.state = .loaded → exec (.clockStart .auc t c) s = .next (s.putReply .auc t .supply [])) ∧
      (k.state = .paused → exec (.clockResume .auc t c) s = .next (s.putReply .auc t .supply [])) ∧
      (k.rehearsal = true → k.state = .idle → k.waitBegin = none →
        exec (.rehearsalRun .auc t c) s = .next (s.putReply .auc t .supply []))) ∧
    ((s.port .auc).xfer = none → s.power.monitor = .normal → full →
      (k.state = .loaded → exec (.clockStart .auc t c) s = .next (s.putReply .auc t .journalFull [])) ∧
      (k.state = .paused → exec (.clockResume .auc t c) s = .next (s.putReply .auc t .journalFull []))) ∧
    ((s.power.monitor = .low ∨ s.power.monitor = .normal ∧ full) → s.startDue c = true →
      exec (.pendingStartDue c) s =
        .next ((s.setPres c { s.presOf c with pending := none }).raise .auc .clockPaused (.number c))) ∧
    (∀ n, k.state = .restartWait → k.timer = some 0 → k.pausePending = false → k.nextStart = some n →
      (s.power.monitor = .low →
        exec (.restartTimerExpiry c) s =
          .next ((s.setClock c (k.pausedAt n .supply)).raise .auc .clockPaused (.number c))) ∧
      (s.power.monitor = .normal → full →
        exec (.restartTimerExpiry c) s =
          .next ((s.setClock c (k.pausedAt n .journal)).raise .auc .clockPaused (.number c)))) ∧
    (∀ a, s.power.monitor = .normal → (s.port .auc).xfer = none → k.state = .loaded → k.waitBegin = none →
      s.CanReserve c → (s.presOf c).current = some a → a.age < k.set.lead →
      exec (.clockStart .auc t c) s =
        .next ((s.setPres c { s.presOf c with pending := some .manual }).putReply .auc t .ok
          ([1#8] ++ u4 (k.set.lead - a.age)))) ∧
    (s.power.monitor = .normal → 16 ≤ s.line.outbound.length → s.NotWaiting c → k.waitBegin = none →
      (s.CanReserve c →
        ((s.port .auc).xfer = none → k.state = .loaded →
          (∃ a, (s.presOf c).current = some a ∧ k.set.lead ≤ a.age) →
          exec (.clockStart .auc t c) s = .next ((held s .startCommand 0).putReply .auc t .ok [])) ∧
        (∀ n, (s.port .auc).xfer = none → k.state = .paused → k.nextStart = some n →
          exec (.clockResume .auc t c) s = .next ((held s .resume n).putReply .auc t .ok [])) ∧
        (s.startDue c = true → exec (.pendingStartDue c) s = .next (held s .startPending 0)) ∧
        (∀ n, k.state = .restartWait → k.timer = some 0 → k.pausePending = false → k.nextStart = some n →
          exec (.restartTimerExpiry c) s = .next (held (s.setClock c { k with timer := none }) .restart n))) ∧
      ((s.port .auc).xfer = none → k.rehearsal = true → k.state = .idle →
        exec (.rehearsalRun .auc t c) s = .next ((held s .rehearsal 0).putReply .auc t .ok []))) ∧
    (∀ b, k.waitBegin = some b →
      (s.power.monitor = .normal → s.CanReserve c → (s.port .auc).xfer = none →
        (k.state = .loaded → exec (.clockStart .auc t c) s = .next (s.putReply .auc t .ok [])) ∧
        (k.state = .paused → exec (.clockResume .auc t c) s = .next (s.putReply .auc t .ok []))) ∧
      (k.rehearsal = true → (s.port .auc).xfer = none → s.isOn = true →
        exec (.rehearsalRun .auc t c) s = .next (s.putReply .auc t .wrongState [])) ∧
      (k.waitHalt = none →
        let begun := s.produce (.clock c)
        let dropped := s.setClock c { k with waitBegin := none }
        let start := if b.kind = .restart ∨ b.kind = .resume then k.nextStart.getD 0 else 0
        (∀ l r, b.kind ≠ .rehearsal → k.lot = some l → s.lot l = some r → s.power.monitor = .normal → s.CanReserve c →
          s.line.outbound.length < 16 → RunBegun s begun c (runStart k r) r.reserve start false) ∧
        (b.kind = .rehearsal → s.power.monitor = .normal → s.line.outbound.length < 16 →
          RunBegun s begun c (max k.set.rehearsalReserve (min 99999 k.set.rehearsalStart)) k.set.rehearsalReserve 0
            true) ∧
        ((s.power.monitor = .low ∨ s.power.monitor = .normal ∧ b.kind ≠ .rehearsal ∧ full) →
          let cause := if s.power.monitor = .low then PauseCause.supply else .journal
          begun =
            match b.kind with
            | .startCommand | .resume | .rehearsal => dropped
            | .startPending => dropped.raise .auc .clockPaused (.number c)
            | .restart =>
              (s.setClock c (Clock.pausedAt { k with waitBegin := none } (k.nextStart.getD 0) cause)).raise .auc
                .clockPaused (.number c))))

/-- R78, R79, R77, R73: CLOCK_PAUSE by the clock's state: a LOADED clock loses its pending start, a sale under way sets
pause-pending (the first cause kept), a RUNNING clock is halted at its position and becomes PAUSED, and an IDLE clock
with no waiting begin answers WRONG_STATE. A waiting begin is dropped, which leaves a clock in RESTART_WAIT PAUSED. The
HALT frame is placed in a free place or by displacing an ANNOUNCE (R172, R51); a pause whose HALT frame finds no place
waits and is taken when its place comes; over a run-out or a pause that waits the command changes nothing, and over a
stop that waits it sets pause-pending. That such a pause judges loads and announces nothing in its own step is log entry
23. -/
def Obligations.ClockPauseActsByTheState : Prop :=
  (∀ (s : State) (t c : Nat), s.Ready .auc → c < 6 →
    let k := s.clock c
    let paused := fun u : State => exec (.clockPause .auc t c) s = .next (u.putReply .auc t .ok [])
    let left := s.line.waits.filter fun e => e.who ≠ .clock c
    (k.state = .idle → k.waitBegin = none →
      exec (.clockPause .auc t c) s = .next (s.putReply .auc t .wrongState [])) ∧
    (k.state = .loaded → k.waitBegin = none → paused (s.setPres c { s.presOf c with pending := none })) ∧
    ((k.state = .paused ∧ k.waitBegin = none ∨ k.state = .settling ∧ k.rehearsalRun = true) → paused s) ∧
    ((k.state = .settling ∧ k.rehearsalRun = false ∨ k.state = .held ∨ k.state = .restartWait ∧ k.waitBegin = none) →
      paused (if k.pausePending then s else s.setClock c (k.pausing .auctioneer))) ∧
    (k.waitBegin ≠ none →
      ((k.state = .idle ∨ k.state = .paused) → paused ((s.setClock c { k with waitBegin := none }).setWaits left)) ∧
      (k.state = .loaded →
        paused (((s.setClock c { k with waitBegin := none }).setWaits left).setPres c
          { s.presOf c with pending := none })) ∧
      (k.state = .restartWait →
        paused ((s.setClock c
          (Clock.pausedAt { k with waitBegin := none } (k.nextStart.getD 0) .auctioneer)).setWaits left))) ∧
    (∀ n, k.state = .running → k.rehearsalRun = false → k.waitHalt = none → k.position = some n →
      (∀ v, s.HaltPlaced c .pause n v → paused ((v.setClock c (k.pausedAt n .auctioneer)).judgeClocks none)) ∧
      (s.NoPlace → s.NotWaiting c →
        paused (((s.setClock c
          { k with
            waitHalt := some
              { reason := .pause, position := n, cause := some .auctioneer, candidate := none, replaced := none }
            timer := none }).setWaits (s.line.waits ++ [{ who := .clock c, kind := .halt }])).judgeClocks none))) ∧
    (∀ w, k.state = .running → k.rehearsalRun = false → k.waitHalt = some w →
      (w.reason ≠ .stop → paused (s.judgeClocks none)) ∧
      (w.reason = .stop →
        paused ((if k.pausePending then s else s.setClock c (k.pausing .auctioneer)).judgeClocks none)))) ∧
  (∀ (s : State) (c n : Nat) (w : WaitHalt) (q : PauseCause),
    let k := s.clock c
    k.waitHalt = some w → w.reason = .pause → w.cause = some q → k.position = some n → k.rehearsalRun = false →
    s.line.outbound.length < 16 →
    let u := (s.haltSent c .pause n).setClock c (k.pausedAt n q)
    s.produce (.clock c) = if q = .supply then u.raise .auc .clockPaused (.number c) else u)

/-- R82, R7, R57, R68: the lot of a LOADED or PAUSED clock is closed, WITHDRAWN without a purchase and PART_SOLD with
one, the reservation is given up, and the clock lets go and is IDLE, holding the position last stood at (log entry 18).
A clock in another state answers WRONG_STATE. -/
def Obligations.ClockSkipClosesTheLot : Prop :=
  (∀ (s : State) (t c : Nat), s.Ready .auc → c < 6 → (s.clock c).state ≠ .loaded → (s.clock c).state ≠ .paused →
    exec (.clockSkip .auc t c) s = .next (s.putReply .auc t .wrongState [])) ∧
  (∀ (s : State) (t c l : Nat) (r : LotRec), s.Ready .auc → c < 6 →
    ((s.clock c).state = .loaded ∨ (s.clock c).state = .paused) → (s.clock c).lot = some l → s.lot l = some r →
    ∃ u : State, exec (.clockSkip .auc t c) s =
        .next (u.settle.putReply .auc t .ok [if r.purchases = [] then 9#8 else 7#8]) ∧
      u.lots = (s.setLot l (some
        { r with state := if r.purchases = [] then .withdrawn else .partSold, clock := none })).lots ∧
      u.clock c =
        { (s.clock c).released with waitBegin := none, cause := none, pausePending := false, reserved := false } ∧
      (∀ d, d ≠ c → u.clock d = s.clock d) ∧
      u.values = { s.values with reserved := s.values.reserved - if (s.clock c).reserved then 1 else 0 } ∧
      (u.presOf c).letGo = some 0 ∧ (u.presOf c).current = none ∧ (u.presOf c).pending = none ∧ (u.presOf c).unrun = false ∧
      (u.presOf c).queue = (s.presOf c).queue ∧ u.accounts = s.accounts ∧ u.desks = s.desks ∧
      u.journal.places = s.journal.places ∧ u.line.outbound = s.line.outbound ∧ u.yard.segs = s.yard.segs ∧
      u.floorTime = s.floorTime)

/-- R112, R113, R114, R6: VOID_LAST takes the newest purchase of the last-sold lot back: a VOID entry is appended, the
stems return, the net is taken off the buyer's open amount and the void is counted, a DAMAGED account being booked
nothing (R137), the clock is PAUSED with the lot as its current lot and its next run starting at 0, and a different
loaded lot goes back to the head of the queue. R113 does not say what becomes of the position and the prices: that the
clock stands at the position last stood at, with S and M as they are, is log entry 18; that the void of a DAMAGED
buyer's purchase is taken is log entry 43, and a pending start becomes absent (log entry 39). The refusals, the first
that applies giving the reply: WRONG_STATE in RUNNING, SETTLING and HELD; EMPTY without a last-sold lot; WRONG_STATE for
a LOADED or IDLE clock whose last-sold lot is on no PRESENTING train; EMPTY for an empty purchase list; WRONG_STATE for
a lot that no purchase removal is taken for (R6) and for a VACANT buyer; JOURNAL_FULL with no entry free; and FULL for a
LOADED clock with another lot and 8 entries in its queue. -/
def Obligations.VoidLastTakesTheSaleBack : Prop :=
  (∀ (s : State) (t c : Nat), s.Ready .auc → c < 6 →
    let k := s.clock c
    let refused := fun code => exec (.voidLast .auc t c) s = .next (s.putReply .auc t code [])
    let busy := k.state = .running ∨ k.state = .settling ∨ k.state = .held
    (busy → refused .wrongState) ∧
    (¬ busy → k.lastSold = none → refused .empty) ∧
    (∀ l, ¬ busy → k.lastSold = some l →
      (s.lot l = none → refused .wrongState) ∧
      (∀ r, s.lot l = some r →
        let far := (k.state = .loaded ∨ k.state = .idle) ∧ ∀ n, r.train = some n → (s.train n).state ≠ .presenting
        let removed := r.state = .onClock ∧ r.clock = some c ∨ r.state = .soldOut ∨ r.state = .partSold
        (far → refused .wrongState) ∧
        (¬ far → r.purchases = [] → refused .empty) ∧
        (∀ p, ¬ far → r.purchases.getLast? = some p →
          (¬ removed → refused .wrongState) ∧
          (removed → (s.acct p.buyer).state = .vacant → refused .wrongState) ∧
          (removed → (s.acct p.buyer).state ≠ .vacant → 8192 ≤ s.values.used + s.values.reserved →
            refused .journalFull) ∧
          (removed → (s.acct p.buyer).state ≠ .vacant → s.values.used + s.values.reserved < 8192 → k.state = .loaded →
            k.lot ≠ some l → 8 ≤ (s.presOf c).queue.length → refused .full))))) ∧
  (∀ (s : State) (t c l : Nat) (r : LotRec) (p : Purchase), s.Ready .auc → c < 6 →
    let k := s.clock c
    k.state ≠ .running → k.state ≠ .settling → k.state ≠ .held → k.lastSold = some l → s.lot l = some r →
    ((k.state = .loaded ∨ k.state = .idle) → ∃ n, r.train = some n ∧ (s.train n).state = .presenting) →
    r.purchases.getLast? = some p →
    (r.state = .onClock ∧ r.clock = some c ∨ r.state = .soldOut ∨ r.state = .partSold) →
    (s.acct p.buyer).state ≠ .vacant → s.values.used + s.values.reserved < 8192 →
    (k.state = .loaded → k.lot ≠ some l → (s.presOf c).queue.length < 8) →
    let e : JEntry :=
      { seq := s.nextSeq, kind := .void, clock := c, time := s.floorTime, lot := l, catalogue := r.catalogue
        buyer := p.buyer, desk := p.desk, tag := k.tag, position := p.position, price := p.price, stems := p.stems
        gross := p.price * p.stems, fee := p.net - p.price * p.stems, net := p.net, voided := some p.seq, check := 0
        damaged := false }
    ∃ u : State, exec (.voidLast .auc t c) s =
        .next (u.settle.putReply .auc t .ok (u4 p.seq ++ u4 s.nextSeq ++ u2 p.buyer ++ u2 p.stems)) ∧
      u.lot l = some
        { r with
          state := .onClock, clock := some c, remaining := r.remaining + p.stems, purchases := r.purchases.dropLast
          lastSeq := some s.nextSeq } ∧
      u.place ((s.values.oldestPlace + s.values.used) % 8192) = some { e with check := entryCheck e } ∧
      u.values = { s.values with used := s.values.used + 1, newest := some s.nextSeq } ∧
      ((s.acct p.buyer).state ≠ .damaged →
        (u.acct p.buyer).openAmt = saturate ((s.acct p.buyer).openAmt - p.net) ∧
        (u.acct p.buyer).lastSeq = some s.nextSeq ∧
        (u.acct p.buyer).entryCount = min ((s.acct p.buyer).entryCount + 1) 4294967295 ∧
        (u.acct p.buyer).heldAmt = (s.acct p.buyer).heldAmt) ∧
      ((s.acct p.buyer).state = .damaged → u.acct p.buyer = s.acct p.buyer) ∧
      (∀ b, b ≠ p.buyer → u.acct b = s.acct b) ∧
      u.clock c =
        { k with
          state := .paused, lot := some l, nextStart := some 0, cause := some .auctioneer, pausePending := false
          timer := none, winner := none, waitBegin := none
          position := match k.position with
            | none => k.stood
            | some n => some n } ∧
      (u.presOf c).pending = none ∧
      (∀ d, d ≠ c → u.clock d = s.clock d) ∧
      (∀ m x, k.state = .loaded → k.lot = some m → m ≠ l → s.lot m = some x →
        (u.presOf c).queue.head? = some { lot := m, origin := .givenBack, announce := none } ∧
        u.lot m = some { x with state := .queued }) ∧
      u.desks = s.desks ∧ u.yard = s.yard ∧ u.floorTime = s.floorTime)

/-- R85 to R88: REHEARSAL_CLEAR empties the response set in every state of the clock and changes nothing else, and
REHEARSAL_REPORT returns page 0 with the set's count and the page count, opening a transfer for 2 pages or more. The
desk of a stop that is valid for a rehearsal run joins the set, in the step that judges the stop (log entry 51), and the
stop takes the clock or is judged against the provisional winner without a buyer or a hold: that winner's own desk is
answered ACCEPTED with this stop's clamped position (R96, R177), and a winner that is replaced is sent OUTBID with the
new winner's position (log entry 27). The run ends at its settle expiry, with WON and a SALE that carries the mark, at
its run-out or by a pause; the clock is then IDLE with the mark, S, M and c cleared. An end by the settle expiry or a
pause judges loads and announces nothing in its own step (log entry 23). -/
def Obligations.RehearsalResponsesAreClearedAndReported : Prop :=
  (∀ (s : State) (t c : Nat), s.Ready .auc → c < 6 →
    let k := s.clock c
    let n := max 1 ((k.responses.length + 59) / 60)
    let page := u1 (min 60 k.responses.length) ++ (k.responses.take 60).flatMap u2 ++ u2 k.responses.length ++ u1 n
    exec (.rehearsalClear .auc t c) s =
      .next ((s.setClock c { k with responses := [] }).putReply .auc t .ok []) ∧
    (k.responses.length ≤ 60 → exec (.rehearsalReport .auc t c) s = .next (s.putReply .auc t .ok page)) ∧
    (60 < k.responses.length →
      exec (.rehearsalReport .auc t c) s =
        .next ((s.setPort .auc
          { s.port .auc with
            xfer := some { kind := .report c, expected := some n, done := 1, next := 0 }
            busy := true }).putReply .auc t .ok page)) ∧
    (∀ n v, k.rehearsalRun = true → k.state = .running → k.waitHalt = none → k.position = some n →
      s.HaltPlaced c .pause n v →
      exec (.clockPause .auc t c) s =
        .next (((v.setClock c k.rehearsed).judgeClocks none).putReply .auc t .ok []))) ∧
  (∀ (s : State) (f : DeskFrame) (rest : List DeskFrame) (c pos d n : Nat), s.isOn = true →
    s.line.inbound = f :: rest → c < 6 → readDesk f = .stop c pos d (s.clock c).tag →
    let k := s.clock c
    let q := min pos n
    let joined := if d ∈ k.responses then k.responses else k.responses ++ [d]
    let w : Winner :=
      { desk := d, buyer := none, position := q, price := k.startPrice.getD 0 - q * k.set.step, hold := 0, given := none }
    let u := { s with line := { s.line with inbound := rest } }
    let answer := fun (x : State) (desk : Nat) (code : DeskCode) (p : Nat) =>
      x.offerReply desk code (some c) k.tag (.positionPrice (some p) (k.startPrice.map fun y => y - p * k.set.step))
    k.rehearsalRun = true → k.position = some n → n ≤ q + k.set.grace →
    (∀ v, k.state = .running → k.waitHalt = none → u.HaltPlaced c .stop n v →
      exec .stop s =
        .next (answer (v.setClock c
          { k with
            state := .settling, winner := some w, waitHalt := none, timer := some k.set.settle
            responses := joined }) d .accepted q)) ∧
    (∀ old, k.state = .settling → k.winner = some old → old.buyer = none →
      let v := if d ∈ k.responses then u else u.setClock c { k with responses := joined }
      (d = old.desk → exec .stop s = .next (answer v d .accepted q)) ∧
      (d ≠ old.desk → old.position ≤ q → exec .stop s = .next (answer v d .outbid old.position)) ∧
      (d ≠ old.desk → q < old.position →
        exec .stop s =
          .next (answer (answer (u.setClock c { k with responses := joined, winner := some w }) old.desk .outbid q)
            d .accepted q)))) ∧
  (∀ (s : State) (c n : Nat), c < 6 → (s.clock c).rehearsalRun = true → (s.clock c).position = some n →
    let k := s.clock c
    let ended := fun x : State => x.setClock c k.rehearsed
    let ranOut := fun x : State => (ended x).raise .auc .clockRunout (.number c)
    (∀ w, k.winner = some w →
      (∀ v, s.Placed (.sale c k.tag true w.desk w.position w.price 0 0 0 0) v →
        let told := v.offerReply w.desk .won (some c) k.tag
          (.positionPrice (some w.position) (k.startPrice.map fun y => y - w.position * k.set.step))
        (s.isOn = true → k.state = .settling → k.timer = some 0 →
          exec (.settleExpiry c) s = .next ((ended told).judgeClocks none)) ∧
        (k.waitHalt = none → k.waitBegin = none → s.produce (.clock c) = (ended told).judgeClocks none)) ∧
      (s.NoPlace → s.NotWaiting c → s.isOn = true → k.state = .settling → k.timer = some 0 →
        exec (.settleExpiry c) s =
          .next ((s.setClock c { k with timer := none }).setWaits
            (s.line.waits ++ [{ who := .clock c, kind := .sale }])))) ∧
    (∀ v, s.HaltPlaced c .runout n v → s.isOn = true → k.state = .running → k.timer = some 0 →
      (99 < n + 1 ∨ k.startPrice.getD 0 < k.reserve.getD 0 + (n + 1) * k.set.step) →
      exec (.stepTimerExpiry c) s = .next (ranOut v).settle) ∧
    (s.line.outbound.length < 16 →
      (∀ h, k.waitHalt = some h →
        (h.reason = .runout → s.produce (.clock c) = ranOut (s.haltSent c .runout n)) ∧
        (h.reason = .pause → s.produce (.clock c) = ended (s.haltSent c .pause n)) ∧
        (∀ old, h.reason = .stop → h.candidate = some old →
          let w : Winner :=
            { desk := old.desk, buyer := none, position := old.position
              price := k.startPrice.getD 0 - old.position * k.set.step, hold := 0, given := none }
          s.produce (.clock c) =
            ((s.haltSent c .stop n).setClock c
              { k with state := .settling, winner := some w, waitHalt := none, timer := some k.set.settle }).offerReply
                old.desk .accepted (some c) k.tag
                (.positionPrice (some old.position) (k.startPrice.map fun y => y - old.position * k.set.step))))))

/-! ## YRD -/

/-- R25, R26: TRAIN_FORM puts a new train with its REGISTERED lots on a FREE storage segment; it answers WRONG_STATE for
a train that is not EMPTY, a segment that is not FREE or not of kind STORE or STAGE, a list of no lots, of more than 12
or with a lot twice, and a lot that is not REGISTERED, the first of which in train order is in the reply. TRAIN_DISBAND
takes a STORED or AT_BAY train whose lots are all closed apart and frees its segment. -/
def Obligations.TrainsAreFormedAndDisbanded : Prop :=
  ∀ (s : State) (t n : Nat), s.Ready .yrd → n < 64 →
    (∀ g l, g < 128 → (∀ k ∈ l, k < 4096) →
      let refused := fun fields => exec (.trainForm .yrd t n g l) s = .next (s.putReply .yrd t .wrongState fields)
      let storage := (s.seg g).state = .free ∧ ∃ m, (s.seg g).layout = some m ∧ (m.kind = .store ∨ m.kind = .stage)
      let fit := 1 ≤ l.length ∧ l.length ≤ 12 ∧ l.Nodup
      (((s.train n).state ≠ .empty ∨ ¬ storage ∨ ¬ fit) → refused []) ∧
      (∀ before k behind, (s.train n).state = .empty → storage → fit → l = before ++ k :: behind →
        (∀ j ∈ before, ∃ r, s.lot j = some r ∧ r.state = .registered) →
        (∀ r, s.lot k = some r → r.state ≠ .registered) → refused (u2 k))) ∧
    (∀ g l m, g < 128 → (∀ k ∈ l, k < 4096) → (s.train n).state = .empty → (s.seg g).state = .free →
      (s.seg g).layout = some m → (m.kind = .store ∨ m.kind = .stage) → 1 ≤ l.length → l.length ≤ 12 → l.Nodup →
      (∀ k ∈ l, ∃ r, s.lot k = some r ∧ r.state = .registered) →
      ∃ u : State, exec (.trainForm .yrd t n g l) s = .next (u.putReply .yrd t .ok []) ∧
        (∀ k, u.lot k = if k ∈ l then (s.lot k).map fun r => { r with state := .onTrain, train := some n } else s.lot k) ∧
        (∀ h, u.seg h = if h = g then { s.seg g with state := .occupied n } else s.seg h) ∧
        (∀ m, u.train m = if m = n then
          { Train.empty with state := .stored, lots := l, head := some g, occupied := [g] } else s.train m) ∧
        u = { s with lots := u.lots, yard := { s.yard with segs := u.yard.segs, trains := u.yard.trains } }) ∧
    (((s.train n).state = .stored ∨ (s.train n).state = .atBay) →
      ((s.train n).lots.all s.lotClosed = false →
        exec (.trainDisband .yrd t n) s = .next (s.putReply .yrd t .lotsOpen [])) ∧
      ((s.train n).lots.all s.lotClosed = true →
        ∃ u : State, exec (.trainDisband .yrd t n) s = .next (u.reexamine.putReply .yrd t .ok []) ∧
          (∀ k, u.lot k = if k ∈ (s.train n).lots then (s.lot k).map fun r => { r with train := none } else s.lot k) ∧
          (∀ h, u.seg h = if (s.train n).head = some h then { s.seg h with state := .free } else s.seg h) ∧
          (∀ m, u.train m = if m = n then Train.empty else s.train m) ∧
          u = { s with lots := u.lots, yard := { s.yard with segs := u.yard.segs, trains := u.yard.trains } })) ∧
    ((s.train n).state ≠ .stored → (s.train n).state ≠ .atBay →
      exec (.trainDisband .yrd t n) s = .next (s.putReply .yrd t .wrongState []))

/-- R27, R21: a move along a valid route, of defined segments alone (log entry 47), joins the tail of the move queue, the
train is QUEUED with its state kept as the prior state, and eligibility is re-examined; the checks answer LOTS_OPEN,
WRONG_STATE, ROUTE_INVALID and FULL in that order. -/
def Obligations.TrainMoveJoinsTheMoveQueue : Prop :=
  ∀ (s : State) (t n : Nat) (l : List Nat), s.Ready .yrd → n < 64 → (∀ g ∈ l, g < 128) →
    let r := s.train n
    let free := r.state = .stored ∨ r.state = .stopped ∨ r.state = .cleared ∨ r.state = .atBay
    let valid := 2 ≤ l.length ∧ l.length ≤ 16 ∧ r.head = l.head? ∧ s.follows l = true ∧ l.Nodup ∧
      ∀ g ∈ l, (s.seg g).layout ≠ none
    let prior := match r.state with
      | .stored => some PriorState.stored
      | .stopped => some .stopped
      | .cleared => some .cleared
      | .atBay => some .atBay
      | .empty | .queued | .moving | .stalled | .presenting => none
    (r.state = .presenting → exec (.trainMove .yrd t n l) s = .next (s.putReply .yrd t .lotsOpen [])) ∧
    (¬ free → r.state ≠ .presenting → exec (.trainMove .yrd t n l) s = .next (s.putReply .yrd t .wrongState [])) ∧
    (free → ¬ valid → exec (.trainMove .yrd t n l) s = .next (s.putReply .yrd t .routeInvalid [])) ∧
    (free → valid → 16 ≤ s.yard.moves.length →
      exec (.trainMove .yrd t n l) s = .next (s.putReply .yrd t .full [])) ∧
    (free → valid → s.yard.moves.length < 16 →
      exec (.trainMove .yrd t n l) s =
        .next (((((s.setMoves (s.yard.moves ++ [n])).setTrain n
          { r with state := .queued, move := some { route := l, next := 1 }, prior := prior }).reexamine
          )).putReply .yrd t .ok (u1 (s.yard.moves.length + 1))))

/-- R29, R30: a queued move is eligible when every segment of its route behind the first is FREE, none is FAULT, the
launch window of the first segment's power group holds fewer than 4 launch times, and the supply stands at or above
WARN. Re-examining launches the oldest eligible move: the segments of its route behind the first are RESERVED by the
train, its group's window takes the floor time, the move leaves the queue, and the train is MOVING with its transit
timer started; with no eligible move nothing changes. -/
def Obligations.OldestEligibleMoveLaunches : Prop :=
  ∀ (s : State),
    (∀ n g rest, s.route n = g :: rest →
      (s.eligible n = true ↔
        (∀ h ∈ rest, (s.seg h).state = .free) ∧ (∀ h ∈ g :: rest, ∀ x, (s.seg h).state ≠ .fault x) ∧
          (s.window (s.seg g).group).length < 4 ∧ s.power.monitor = .normal)) ∧
    (∀ n, s.route n = [] → s.eligible n = false) ∧
    ((∀ n ∈ s.yard.moves, s.eligible n = false) → s.reexamine = s) ∧
    (∀ n before behind, s.yard.moves = before ++ n :: behind → (∀ m ∈ before, s.eligible m = false) →
      s.eligible n = true → n ∉ before →
      let u := s.launch n
      s.reexamine = State.launchUpTo (s.yard.moves.length - 1) u ∧
      (∀ h, (u.seg h).state = if h ∈ (s.route n).tail then .reserved n else (s.seg h).state) ∧
      (∀ h, (u.seg h).layout = (s.seg h).layout) ∧
      (u.train n).state = .moving ∧ (u.train n).timer = some (s.yard.transitTimeout * 1000) ∧
      (u.train n).prior = none ∧ (∀ m, m ≠ n → u.train m = s.train m) ∧
      n ∉ u.yard.moves ∧ (∀ m, m ≠ n → (m ∈ u.yard.moves ↔ m ∈ s.yard.moves)) ∧
      (∀ g, (s.route n).head? = some g →
        u.window (s.seg g).group = s.window (s.seg g).group ++ [{ time := s.floorTime, age := 0 }]) ∧
      u.lots = s.lots ∧ u.clocks = s.clocks ∧ u.accounts = s.accounts ∧
      (u.flag .yrd 4).pending = true ∧ (u.flag .yrd 4).detail = .number n)

/-- R38: MOVE_RETRY resumes a train STALLED with cause TRANSIT, with its transit timer started, and answers WRONG_STATE
for every other train; a train number outside 0 to 63 answers NO_RECORD. -/
def Obligations.MoveRetryResumesATransitStall : Prop :=
  ∀ (s : State) (t n : Nat), s.Ready .yrd →
    (64 ≤ n → exec (.moveRetry .yrd t n) s = .next (s.putReply .yrd t .noRecord [])) ∧
    (n < 64 → (s.train n).state = .stalled → (s.train n).cause = some .transit →
      exec (.moveRetry .yrd t n) s =
        .next ((s.setTrain n
          { s.train n with
            state := .moving, cause := none, timer := some (s.yard.transitTimeout * 1000) }).putReply .yrd t .ok [])) ∧
    (n < 64 → ((s.train n).state ≠ .stalled ∨ (s.train n).cause ≠ some .transit) →
      exec (.moveRetry .yrd t n) s = .next (s.putReply .yrd t .wrongState []))

/-- R39: MOVE_CANCEL takes a queued move out of the queue and returns the train to its prior state; it stops a train
under way where it stands, freeing what the train had reserved and not reached; another train answers WRONG_STATE. The
reply names the state that was left. -/
def Obligations.MoveCancelEndsTheMove : Prop :=
  ∀ (s : State) (t n : Nat), s.Ready .yrd → n < 64 →
    let r := s.train n
    (∀ q, r.state = .queued → r.prior = some q →
      exec (.moveCancel .yrd t n) s =
        .next (((s.setMoves (s.yard.moves.filter (· ≠ n))).setTrain n
          { r with state := q.state, move := none, prior := none }).putReply .yrd t .ok [2#8])) ∧
    ((r.state = .moving ∨ r.state = .stalled) → s.TablesWf →
      ∃ u : State, exec (.moveCancel .yrd t n) s =
          .next (u.reexamine.putReply .yrd t .ok [if r.state = .moving then 3#8 else 4#8]) ∧
        u.train n = r.halted (s.takenIn n) ∧
        (∀ m, m ≠ n → u.train m = s.train m) ∧
        (∀ g, (s.seg g).state = .reserved n →
          (u.seg g).state = if g ∈ s.takenIn n then .occupied n else .free) ∧
        (∀ g, (s.seg g).state = .fault (some n) → (u.seg g).state = .fault none) ∧
        (∀ g, (s.seg g).state ≠ .reserved n → (s.seg g).state ≠ .fault (some n) → u.seg g = s.seg g) ∧
        u = { s with yard := { s.yard with segs := u.yard.segs, trains := u.yard.trains } }) ∧
    (r.state ≠ .queued → r.state ≠ .moving → r.state ≠ .stalled →
      exec (.moveCancel .yrd t n) s = .next (s.putReply .yrd t .wrongState []))

/-! ## FIN -/

/-- R126: the cents of an open amount are the nearest whole number of cents, half a cent away from zero, and the residue
lies in the range that R126 gives. -/
def Obligations.InvoiceCentsRoundHalfAwayFromZero : Prop :=
  ∀ x : Int,
    (0 ≤ x → invoiceCents x = (x + 5) / 10 ∧ -5 ≤ x - 10 * invoiceCents x ∧ x - 10 * invoiceCents x ≤ 4) ∧
    (x < 0 → invoiceCents x = -((x.natAbs + 5) / 10 : Nat) ∧ -4 ≤ x - 10 * invoiceCents x ∧
      x - 10 * invoiceCents x ≤ 5)

/-- R138, R127, R139: an invoice close moves ten times the cents from the open into the billed amount, keeps the residue,
records the last invoice and restarts the counts; an account that is VACANT or DAMAGED answers WRONG_STATE. -/
def Obligations.InvoiceCloseBillsTheOpenAmount : Prop :=
  ∀ (s : State) (t b : Nat), s.Ready .fin → b < 1024 →
    let a := s.acct b
    let cents := invoiceCents a.openAmt
    let lost := overflows (a.billedAmt + 10 * cents) || overflows (a.openAmt - 10 * cents)
    let z : Account :=
      { a with
        billedAmt := saturate (a.billedAmt + 10 * cents), openAmt := saturate (a.openAmt - 10 * cents)
        lastInvoice := some
          { cents := cents, count := a.entryCount, first := a.firstSeq, last := a.lastSeq, time := s.floorTime }
        entryCount := 0, firstSeq := none, lastSeq := none, saturated := a.saturated || lost
        isOver := if lost then true else a.isOver }
    let u := s.setAcct b z
    ((a.state = .active ∨ a.state = .suspended) →
      exec (.invoiceClose .fin t b) s =
        .next ((if lost then (u.raise .sup .accountOver (.number b)).raise .fin .accountOver (.number b)
          else u).putReply .fin t .ok
          (s6 cents ++ u4 a.entryCount ++ opt04 a.firstSeq ++ opt04 a.lastSeq ++ s6 z.openAmt ++ s6 z.billedAmt))) ∧
    ((a.state = .vacant ∨ a.state = .damaged) →
      exec (.invoiceClose .fin t b) s = .next (s.putReply .fin t .wrongState []))

/-- R140: INVOICE_CLOSE_ALL opens the walk at account 0; a step of the walk closes its next account when it is ACTIVE or
SUSPENDED with an open amount that is not 0, counts it, and goes on; after account 1023 the transfer ends complete and
FIN is given INVOICE_DONE. -/
def Obligations.InvoiceWalkJudgesEachAccount : Prop :=
  (∀ (s : State) (t : Nat), s.Ready .fin →
    exec (.invoiceCloseAll .fin t) s =
      .next ((s.setPort .fin
        { s.port .fin with
          xfer := some { kind := .closeAll, expected := none, done := 0, next := 0 }
          busy := true }).putReply .fin t .ok [])) ∧
  (∀ (s : State) (f : Xfer), s.isOn = true → (s.port .fin).xfer = some f → f.kind = .closeAll →
    let a := s.acct f.next
    let closes := ((a.state = .active ∨ a.state = .suspended) ∧ a.openAmt ≠ 0)
    ∀ u n, (closes → u = s.closeInvoice f.next ∧ n = f.done + 1) → (¬ closes → u = s ∧ n = f.done) →
      (f.next + 1 < 1024 →
        exec .invoiceWalkStep s =
          .next (u.setPort .fin { u.port .fin with xfer := some { f with done := n, next := f.next + 1 } })) ∧
      (1024 ≤ f.next + 1 →
        exec .invoiceWalkStep s =
          .next ((u.setPort .fin
            { u.port .fin with
              xfer := none, busy := false
              last := some { complete := true, kind := .closeAll, done := n } }).raise .fin .invoiceDone (.number n))))

/-- R142: a payment, clamped, is applied to the billed amount rounded down to a whole cent, and the rest is returned as
not applied; OVER is judged. -/
def Obligations.PaymentLowersTheBilledAmount : Prop :=
  ∀ (s : State) (t b given : Nat), s.Ready .fin → b < 1024 →
    let a := s.acct b
    let cents := min given 14073748835532
    let applied : Int := if 0 < a.billedAmt then min (10 * (cents : Int)) (10 * (a.billedAmt / 10)) else 0
    let z : Account :=
      { a with
        billedAmt := a.billedAmt - applied
        isOver :=
          if a.limit < a.openAmt + (a.billedAmt - applied) + a.heldAmt ∨ a.saturated = true then a.isOver else false }
    ((a.state = .active ∨ a.state = .suspended) →
      exec (.paymentPost .fin t b given) s =
        .next ((if cents = 0 then s else s.setAcct b z).putReply .fin t .ok
          (u6 cents ++ s6 (applied / 10) ++ s6 (cents - applied / 10) ++ s6 (a.billedAmt - applied)))) ∧
    ((a.state = .vacant ∨ a.state = .damaged) →
      exec (.paymentPost .fin t b given) s = .next (s.putReply .fin t .wrongState []))

/-- R154, R155: JOURNAL_READ returns the counts and sequences and at most one entry, and changes nothing; JOURNAL_RELEASE
frees the held entries up to the sequence given, clamped to the newest, and no other. -/
def Obligations.JournalIsReadAndReleased : Prop :=
  (∀ (s : State) (t q n : Nat), s.Ready .fin →
    let v := s.values
    let head := u2 v.used ++ u1 v.reserved ++ opt04 v.oldest ++ opt04 v.newestHeld ++ u1 (min n 1)
    (n = 0 → exec (.journalRead .fin t q n) s = .next (s.putReply .fin t .ok head)) ∧
    (n ≠ 0 → (v.used = 0 ∨ v.ahead q = true) →
      exec (.journalRead .fin t q n) s = .next (s.putReply .fin t .empty head)) ∧
    (∀ e, n ≠ 0 → v.used ≠ 0 → v.ahead q = false → v.holds q = true → s.place (v.placeOf q) = some e →
      exec (.journalRead .fin t q n) s = .next (s.putReply .fin t .ok (head ++ entryBytes e))) ∧
    (n ≠ 0 → v.used ≠ 0 → v.ahead q = false → v.holds q = false →
      exec (.journalRead .fin t q n) s = .next (s.putReply .fin t .noRecord head))) ∧
  (∀ (s : State) (t q w : Nat), s.Ready .fin → s.values.used ≤ 8192 → s.values.newest = some w →
    let v := s.values
    let m := if v.ahead q then w else q
    let k := if v.holds m then v.used - seqDist w m else 0
    ∃ u : State, exec (.journalRelease .fin t q) s =
        .next (u.putReply .fin t .ok
          (u2 k ++ u4 m ++ (u2 (v.used - k) ++ u1 v.reserved ++ opt04 u.values.oldest ++ opt04 u.values.newestHeld))) ∧
      u.values = { v with used := v.used - k, oldestPlace := (v.oldestPlace + k) % 8192 } ∧
      (∀ i, i < k → u.place ((v.oldestPlace + i) % 8192) = none) ∧
      (∀ i, k ≤ i → i < v.used → u.place ((v.oldestPlace + i) % 8192) = s.place ((v.oldestPlace + i) % 8192)) ∧
      u = { s with journal := u.journal })

/-! ## Every port -/

/-- R14, R24, R43, R61, R89, R135, R143, R187, R190: the reads answer OK with the record as it stands, and change
nothing but the reply slot; DIST_READ answers WRONG_STATE for a train that is not CLEARED or AT_BAY. The bytes are those
of the model's layouts: TRAIN_READ's occupied set (log entry 38) and presenting clock while QUEUED (41), a detail with
no cause yet (53), flags and marks (54), an age above 4,294,967,295 ms (55), the pending flags of PORT_STATUS as a mask
(59), a run-out count above 255 (61), and the lot state of an entry that is not announced (62). -/
def Obligations.ReadsChangeNothingButTheReply : Prop :=
  ∀ (s : State) (p : Port) (t g : Nat), s.Ready p →
    (∀ k, k < 4096 →
      exec (.lotRead p t k g) s = .next (s.putReply p t .ok (lotPage (Tab.get LotCell.free s.lots k) g))) ∧
    (∀ n, n < 64 → exec (.trainRead p t n) s = .next (s.putReply p t .ok (s.trainBytes n))) ∧
    (∀ c, c < 6 → exec (.clockRead p t c g) s = .next (s.putReply p t .ok (s.clockPage c g))) ∧
    (∀ b, b < 1024 →
      exec (.accountRead p t b) s =
        .next (s.putReply p t .ok (accountFieldBytes (s.acct b) ++ FeeClass.bytes (s.fee (s.acct b).feeClass)))) ∧
    (∀ d, 1 ≤ d → d ≤ 511 →
      exec (.deskRead p t d) s =
        .next (s.putReply p t .ok
          (optF2 (s.desk d).buyer ++ [if (s.desk d).reachable then 0#8 else 1#8] ++ u1 (s.desk d).undelivered ++
            opt03 (s.badgeOf d) ++ (List.range 6).flatMap fun c => u1 (s.winMark d c).code))) ∧
    (∀ n q, portOfCode n = some q →
      exec (.portStatus p t n) s = .next (s.putReply p t .ok (s.portBytes q))) ∧
    exec (.noticePeek p t) s = .next (s.putReply p t .ok (p.priorities.flatMap (s.noticeBytes p))) ∧
    (∀ n, p = .yrd → n < 64 → ((s.train n).state = .cleared ∨ (s.train n).state = .atBay) →
      exec (.distRead p t n g) s = .next (s.putReply p t .ok (s.distPage n g))) ∧
    (∀ n, p = .yrd → n < 64 → (s.train n).state ≠ .cleared → (s.train n).state ≠ .atBay →
      exec (.distRead p t n g) s = .next (s.putReply p t .wrongState []))

/-- R189: NOTICE_TAKE returns the port's highest-priority class that is both pending and enabled, with its detail and its
again mark, and clears both; when there is none the reply is EMPTY and nothing changes. The byte of the again mark is
log entry 54. -/
def Obligations.NoticeTakeReturnsTheHighestClass : Prop :=
  ∀ (s : State) (p : Port) (t : Nat), s.Ready p →
    (∀ k, 1 ≤ k → k ≤ p.classCount → (s.flag p k).pending = true → s.enabled p k = true →
      (∀ j, 1 ≤ j → j < k → (s.flag p j).pending = false ∨ s.enabled p j = false) →
      exec (.noticeTake p t) s =
        .next ((s.setFlag p k { pending := false, again := false, detail := (s.flag p k).detail }).putReply p t .ok
          (u1 k ++ (s.flag p k).detail.bytes (detailWidth p k) ++ onByte (s.flag p k).again))) ∧
    ((∀ k, 1 ≤ k → k ≤ p.classCount → (s.flag p k).pending = false ∨ s.enabled p k = false) →
      exec (.noticeTake p t) s = .next (s.putReply p t .empty []))

/-- R190, R188: NOTICE_ENABLE stores the mask without the bits beyond the port's classes and leaves every flag; a class
that is raised is pending with its latest detail, with the again mark when it was pending already. -/
def Obligations.NoticeMaskAndRaise : Prop :=
  (∀ (s : State) (p : Port) (t : Nat) (m : BitVec 8), s.Ready p →
    let v := m &&& BitVec.ofNat 8 (2 ^ p.classCount - 1)
    exec (.noticeEnable p t m) s =
      .next ((s.setPort p { s.port p with mask := v }).putReply p t .ok [v])) ∧
  (∀ (s : State) (p : Port) (n : Notice) (d : Detail), n.priority p ≠ 0 →
    let k := n.priority p
    (s.raise p n d).flag p k = { pending := true, again := (s.flag p k).pending, detail := d } ∧
    (∀ q j, (q ≠ p ∨ j ≠ k) → (s.raise p n d).flag q j = s.flag q j))

/-- R185, R184, R87, R21: a DATA frame does the next unit of its port's open transfer, counts it and ends the transfer
with the last one; with no transfer open the reply is WRONG_STATE. What a segment record does: while a train is under
way it answers WRONG_STATE, with a segment number above 127 NO_RECORD, with a code out of range WRONG_STATE (R197; the
place of this check is log entry 20), for the PRESENT segment of a clock that another segment is WRONG_STATE, and for an
OCCUPIED segment whose kind or entry edge it would change WRONG_STATE, each with the segment in the reply and nothing
changed. A record that is taken is stored with its successor list cleaned and its filter time clamped; the state of the
segment and its filtered level are kept, and a segment that was not defined takes the sensed level; the queued moves
whose route no longer follows the successor lists are dropped, oldest first (log entry 48), each with MOVE_STALLED; and
eligibility is re-examined. -/
def Obligations.DataDoesTheNextUnit : Prop :=
  ∀ (s : State) (p : Port) (t : Nat) (u : DataUnit), s.isOn = true →
    ((s.port p).xfer = none → exec (.data p t u) s = .next (s.putReply p t .wrongState [])) ∧
    (∀ f, (s.port p).xfer = some f →
      let counted := fun x : State =>
        if f.expected = some (f.done + 1) then
          x.setPort p
            { x.port p with
              xfer := none, busy := false, last := some { complete := true, kind := f.kind, done := f.done + 1 } }
        else x.setPort p { x.port p with xfer := some { f with done := f.done + 1 }, busy := true }
      (∀ r, f.kind = .lotWrite → u = .lot r →
        let a := s.writeLot r
        exec (.data p t u) s = .next ((counted a.state).putReply p t a.code a.fields)) ∧
      (∀ r, f.kind = .layoutWrite → u = .segment r →
        let a := s.writeSegment r
        exec (.data p t u) s = .next ((counted a.state).putReply p t a.code a.fields)) ∧
      (∀ c, f.kind = .report c → u = .nothing →
        let l := (s.clock c).responses
        exec (.data p t u) s =
          .next ((counted s).putReply p t .ok
            (listBytes (((l.drop (60 * f.done)).take 60).map u2) ++ u2 l.length))) ∧
      (f.kind = .closeAll → u = .nothing →
        exec (.data p t u) s = .next (s.putReply p t .ok (u2 f.done ++ u2 f.next)))) ∧
    (∀ r : SegFields,
      let g := r.segment
      let a := s.writeSegment r
      let refused := fun code => a = { code := code, fields := u2 g, state := s }
      let numbered := g < 128 ∧ ∀ h ∈ r.succ, h < 128
      let kind := match r.kind with
        | 0 => some SegKind.store
        | 1 => some .track
        | 2 => some .stage
        | 3 => if r.param < 6 then some (.present r.param) else none
        | 4 => if r.param < 32 then some (.bay r.param) else none
        | 5 => some .return
        | _ => none
      let elsewhere := fun q => ∃ c, q = SegKind.present c ∧
        ∃ x ∈ s.yard.segs, x.1 ≠ g ∧ ∃ m, x.2.layout = some m ∧ m.kind = q
      let bound := fun q => (∃ n, (s.seg g).state = .occupied n) ∧
        ∃ m, (s.seg g).layout = some m ∧ (m.kind ≠ q ∨ m.rising ≠ (r.edge == 0))
      (s.underWay = true → refused .wrongState) ∧
      (s.underWay = false → ¬ numbered → refused .noRecord) ∧
      (s.underWay = false → numbered → (kind = none ∨ 4 ≤ r.group ∨ 2 ≤ r.edge) → refused .wrongState) ∧
      (∀ q, s.underWay = false → numbered → kind = some q → r.group < 4 → r.edge < 2 →
        (elsewhere q ∨ bound q → refused .wrongState) ∧
        (¬ elsewhere q → ¬ bound q →
          let m : SegLayout :=
            { kind := q, succ := r.succ.eraseDups.filter (· ≠ g), group := r.group, rising := r.edge == 0
              filter := min 255 r.filter }
          let v := s.setSeg g
            { s.seg g with
              layout := some m, level := if (s.seg g).layout = none then s.sensed g else (s.seg g).level }
          let broken := v.yard.moves.filter fun n => v.follows (v.route n) = false
          a.code = .ok ∧
          a.fields =
            SegFields.bytes
              { r with succ := m.succ, filter := m.filter, param := if r.kind = 3 ∨ r.kind = 4 then r.param else 0 } ++
            u1 broken.length ∧
          a.state = (State.each (fun n x =>
            (((x.setMoves (x.yard.moves.filter (· ≠ n))).setTrain n
              { x.train n with state := (x.train n).returnState, move := none, prior := none }).raise .yrd .moveStalled
                (.number n))) broken v).reexamine)))

/-! ## The desk line, inbound -/

/-- R168, R169, R170: a good desk frame makes its desk REACHABLE with a count of 0; while the inbound queue holds fewer
than 32 frames it joins the tail and is acknowledged, and otherwise it is discarded with the slot recessive; a frame
that is not good only leaves the slot recessive. A malformed frame leaves the queue at its turn with no other effect. -/
def Obligations.DeskFramesAreQueuedAndAcknowledged : Prop :=
  ∀ (s : State), s.isOn = true →
    (∀ f : WireFrame,
      let u := s.setDesk f.source { s.desk f.source with reachable := true, undelivered := 0 }
      (deskGood f = true → s.line.inbound.length < 32 →
        exec (.deskFrameReceive f) s =
          .next { u with line := { s.line with
            inbound := s.line.inbound ++ [{ cls := f.cls, arb := f.arb, source := f.source, payload := f.payload }]
            ack := true } }) ∧
      (deskGood f = true → 32 ≤ s.line.inbound.length →
        exec (.deskFrameReceive f) s = .next { u with line := { s.line with ack := false } }) ∧
      (deskGood f = false →
        exec (.deskFrameReceive f) s = .next { s with line := { s.line with ack := false } })) ∧
    (∀ f rest, s.line.inbound = f :: rest → readDesk f = .malformed →
      exec .malformedFrameDiscard s = .next { s with line := { s.line with inbound := rest } })

/-- R98, R99, R100, R101, R77, R136: the first stop of a run, from a desk whose buyer passes the tests, halts the clock,
makes the winner record at the stop's position and price, places the hold of Emin stems, and is answered ACCEPTED; in
the settle window a stop at a lower position replaces the winner, with the old hold released and the new one placed, and
the desk replaced is sent OUTBID with the new winner's position and price (R177, log entry 27). The HALT frame is placed
in a free place or by displacing an ANNOUNCE (R172, R51). A stop whose HALT frame finds no place waits as the candidate
of a waiting halt, without a hold, alone or in the place of a run-out or a pause that waited; a stop at a lower position
replaces it. When its place comes, a candidate that passes the tests takes the clock. -/
def Obligations.StopsTakeTheClock : Prop :=
  (∀ (s : State) (f : DeskFrame) (rest : List DeskFrame) (c pos d b l n : Nat) (r : LotRec), s.isOn = true →
    s.line.inbound = f :: rest → c < 6 → readDesk f = .stop c pos d (s.clock c).tag →
    let k := s.clock c
    let a := s.acct b
    let q := min pos n
    let price := k.startPrice.getD 0 - q * k.set.step
    let hold := price * min (r.minTake * r.unit) r.remaining +
      feeOf (s.fee a.feeClass) price (min (r.minTake * r.unit) r.remaining)
    let w : Winner := { desk := d, buyer := some b, position := q, price := price, hold := hold, given := none }
    let u := { s with line := { s.line with inbound := rest } }
    let answer := fun (x : State) (desk : Nat) (code : DeskCode) =>
      x.offerReply desk code (some c) k.tag (.positionPrice (some q) (k.startPrice.map fun y => y - q * k.set.step))
    let waiting := fun (j : Clock) (h : WaitHalt) =>
      (u.setClock c
        { j with
          waitHalt := some { h with reason := .stop, candidate := some { w with hold := 0 } }
          timer := none }).joinWait (.clock c) .halt
    k.rehearsalRun = false → k.position = some n → n ≤ q + k.set.grace → k.lot = some l → s.lot l = some r →
    (s.desk d).buyer = some b → a.state = .active → a.isOver = false → creditPasses a hold = true →
    a.heldAmt + hold ≤ 140737488355327 → 0 ≤ a.heldAmt →
    (∀ v, k.state = .running → k.waitHalt = none → u.HaltPlaced c .stop n v →
      exec .stop s =
        .next (answer ((v.setClock c
          { k with state := .settling, winner := some w, waitHalt := none, timer := some k.set.settle }).setAcct b
          { a with heldAmt := a.heldAmt + hold }) d .accepted)) ∧
    (∀ old ob, k.state = .settling → k.winner = some old → old.desk ≠ d → q < old.position → old.buyer = some ob →
      ob ≠ b →
      exec .stop s =
        .next (answer (answer (((u.releaseHold ob old.hold).setAcct b
          { a with heldAmt := a.heldAmt + hold }).setClock c { k with winner := some w }) old.desk .outbid)
          d .accepted)) ∧
    (k.state = .running →
      (k.waitHalt = none → s.NoPlace →
        exec .stop s =
          .next (waiting k { reason := .stop, position := n, cause := none, candidate := none, replaced := none })) ∧
      (∀ h, k.waitHalt = some h →
        (h.reason = .runout → h.candidate = none →
          exec .stop s =
            .next (waiting k
              { reason := .stop, position := n, cause := none, candidate := none, replaced := some .runout })) ∧
        (∀ x, h.reason = .pause → h.candidate = none → h.cause = some x →
          exec .stop s =
            .next (waiting (k.pausing x)
              { reason := .stop, position := n, cause := none, candidate := none, replaced := some .pause })) ∧
        (∀ old, h.reason = .stop → h.candidate = some old → old.desk ≠ d → q < old.position →
          exec .stop s = .next (answer (waiting k h) old.desk .outbid))))) ∧
  (∀ (s : State) (c b l n : Nat) (r : LotRec) (h : WaitHalt) (old : Winner),
    let k := s.clock c
    let a := s.acct b
    let price := k.startPrice.getD 0 - old.position * k.set.step
    let hold := price * min (r.minTake * r.unit) r.remaining +
      feeOf (s.fee a.feeClass) price (min (r.minTake * r.unit) r.remaining)
    let w : Winner :=
      { desk := old.desk, buyer := some b, position := old.position, price := price, hold := hold, given := none }
    k.waitHalt = some h → h.reason = .stop → h.candidate = some old → s.line.outbound.length < 16 →
    k.rehearsalRun = false → k.position = some n → k.lot = some l → s.lot l = some r → (s.desk old.desk).buyer = some b →
    a.state = .active → a.isOver = false → creditPasses a hold = true → a.heldAmt + hold ≤ 140737488355327 →
    0 ≤ a.heldAmt →
    s.produce (.clock c) =
      (((s.haltSent c .stop n).setClock c
        { k with state := .settling, winner := some w, waitHalt := none, timer := some k.set.settle }).setAcct b
        { a with heldAmt := a.heldAmt + hold }).offerReply old.desk .accepted (some c) k.tag
        (.positionPrice (some old.position) (k.startPrice.map fun y => y - old.position * k.set.step)))

/-- R92, R95, R96, R97, R100, R101: a stop that is not taken changes nothing but the queues of the desk line: its desk
is answered WRONG_RUN (with another run tag in HELD too, log entry 50; with run tag 0 for clock 6 or 7, R177), TAKEN,
PAUSED, LATE, NOT_SIGNED_IN, SUSPENDED or CREDIT, or, against the provisional winner or the candidate of a waiting halt,
OUTBID with that one's position, or, from that one's own desk, ACCEPTED with this stop's clamped position (R96, R177). A
candidate that fails the tests when its place comes is answered the failing code; the place then carries the run-out or
the pause that it displaced, or the clock goes on. -/
def Obligations.StopsThatAreNotTaken : Prop :=
  (∀ (s : State) (f : DeskFrame) (rest : List DeskFrame) (c pos d tag : Nat), s.isOn = true →
    s.line.inbound = f :: rest → 6 ≤ c → readDesk f = .stop c pos d tag →
    exec .stop s =
      .next (({ s with line := { s.line with inbound := rest } }).offerReply d .wrongRun (some c) tag (.runTag 0))) ∧
  (∀ (s : State) (f : DeskFrame) (rest : List DeskFrame) (c pos d tag : Nat), s.isOn = true →
    s.line.inbound = f :: rest → c < 6 → readDesk f = .stop c pos d tag →
    let k := s.clock c
    let u := { s with line := { s.line with inbound := rest } }
    let answer := fun (code : DeskCode) (x : ReplyDetail) => u.offerReply d code (some c) tag x
    let at' := fun (p : Nat) =>
      ReplyDetail.positionPrice (some p) (k.startPrice.map fun y => y - p * k.set.step)
    let against := if k.state = .settling then k.winner else k.waitHalt.bind (·.candidate)
    ((tag ≠ k.tag ∨ k.state = .idle ∨ k.state = .loaded ∨ k.state = .restartWait) →
      exec .stop s = .next (answer .wrongRun (.runTag k.tag))) ∧
    (tag = k.tag → k.state = .held → exec .stop s = .next (answer .taken .nothing)) ∧
    (∀ n, tag = k.tag → k.state = .paused → k.position = some n →
      exec .stop s = .next (answer .paused (at' n))) ∧
    (∀ n, tag = k.tag → (k.state = .running ∨ k.state = .settling) → k.position = some n →
      let q := min pos n
      (q + k.set.grace < n → exec .stop s = .next (answer .late (at' n))) ∧
      (n ≤ q + k.set.grace → k.rehearsalRun = false →
        (∀ w, against = some w →
          (w.desk = d → exec .stop s = .next (answer .accepted (at' q))) ∧
          (w.desk ≠ d → w.position ≤ q → exec .stop s = .next (answer .outbid (at' w.position)))) ∧
        (∀ l r, k.lot = some l → s.lot l = some r →
          (k.state = .running ∧ against = none ∨ ∃ w, against = some w ∧ w.desk ≠ d ∧ q < w.position) →
          ∀ code, s.StopFails d r (k.startPrice.getD 0 - q * k.set.step) code →
            exec .stop s = .next (answer code .nothing))))) ∧
  (∀ (s : State) (c l n : Nat) (r : LotRec) (h : WaitHalt) (old : Winner) (code : DeskCode),
    let k := s.clock c
    let answer := fun (x : State) => x.offerReply old.desk code (some c) k.tag .nothing
    k.waitHalt = some h → h.reason = .stop → h.candidate = some old → k.rehearsalRun = false → k.position = some n →
    k.lot = some l → s.lot l = some r → s.line.outbound.length < 16 →
    s.StopFails old.desk r (k.startPrice.getD 0 - old.position * k.set.step) code →
    (h.replaced = some .runout → s.produce (.clock c) = answer ((s.haltSent c .runout n).takeRunout c)) ∧
    (∀ x, h.replaced ≠ some .runout → k.pausePending = true → k.cause = some x →
      s.produce (.clock c) =
        answer (((s.haltSent c .pause n).setClock c (k.pausedAt n x)).raise .auc .clockPaused (.number c))) ∧
    (h.replaced ≠ some .runout → k.pausePending = false →
      s.produce (.clock c) = answer (s.setClock c { k with waitHalt := none, timer := some k.set.interval })))

/-- R117, R118, R119, R125, R108: the fee is the larger of the stem fee plus the percent fee and the minimum fee, the net
is the gross plus the fee and rises strictly with the stems; the final stems are the clamped quantity when it fits, and
otherwise the largest value Emin plus j packing units, at most the remaining stems, that fits, or Emin when none above it
fits; they never exceed the remaining stems. -/
def Obligations.FeesNetsAndFinalStems : Prop :=
  (∀ (f : FeeClass) (price q : Nat),
    feeOf f price q = max (f.stemFee * q + (price * q * f.percentage + 5000) / 10000) f.minimum ∧
    netOf f price q = price * q + feeOf f price q ∧
    (∀ n, 1 ≤ price → q < n → netOf f price q < netOf f price n) ∧
    (price ≤ 99999 → q ≤ 60000 → f.stemFee ≤ 999 → f.percentage ≤ 2000 → f.minimum ≤ 100000 →
      feeOf f price q ≤ 1259928000 ∧ netOf f price q ≤ 7259868000)) ∧
  (∀ (g : Given) (r : LotRec) (fits : Nat → Bool), 0 < r.unit →
    let x := clampQuantity g r
    let low := min (r.minTake * r.unit) r.remaining
    let y := finalStems g r fits
    y ≤ r.remaining ∧
    (fits x = true → y = x) ∧
    (fits x = false → ∃ j, y = low + j * r.unit ∧ (j = 0 ∨ fits y = true) ∧
      ∀ i, j < i → low + i * r.unit ≤ r.remaining → fits (low + i * r.unit) = false) ∧
    low ≤ x ∧ x ≤ r.remaining)

/-- R106, R107, R109, R110, R111, R79: the winner's quantity, or Emin when the hold timer expires, is fitted and the
sale is committed in the lot, the journal, the account and the clock as one change; the clock then waits to restart on a
lot that stays on it, at the sale's position less the restart raise, or lets go of a lot that has closed, where
pause-pending is given up with CLOCK_PAUSED. The SALE frame is placed in a free place or by displacing an ANNOUNCE
(R172, R51). A commit whose SALE finds no place waits, and is made afresh when its place comes. A QUANTITY for a clock
that is not HELD answers NOT_WINNER, one from another desk than the winner's TAKEN, one with another run tag WRONG_RUN
with the clock's run tag, and one for a quantity that has been given TAKEN; one that names clock 6 or 7 answers
WRONG_RUN with run tag 0 (R92, R177). -/
def Obligations.QuantityAndHoldExpiryCommitTheSale : Prop :=
  (∀ (s : State) (c l b : Nat) (r : LotRec) (w : Winner), c < 6 →
    let k := s.clock c
    k.winner = some w → w.buyer = some b → k.lot = some l → s.lot l = some r →
    let a := s.acct b
    let stems := fun g => finalStems g r (fitsRoom (s.fee a.feeClass) w.price (roomOf a w.hold))
    let least := Given.stems (min (r.minTake * r.unit) r.remaining)
    let next := fun (u : State) => if u.lotIs l .onClock then u.afterOpen c w.position else u.afterClosed c
    let placed := fun (x : State) (g : Given) (v : State) =>
      x.Placed (.sale c k.tag false w.desk w.position w.price (stems g) l r.catalogue (r.remaining - stems g)) v
    (∀ v, s.isOn = true → k.state = .held → w.given = none →
      (∀ f rest g, s.line.inbound = f :: rest → readDesk f = .quantity c w.desk k.tag g →
        placed { s with line := { s.line with inbound := rest } } g v →
        ∃ u : State, exec .quantity s = .next (next u) ∧ u.line.inbound = rest ∧
          SaleCommitted s v u c l r w b (stems g)) ∧
      (k.timer = some 0 → placed s least v →
        ∃ u : State, exec (.holdTimerExpiry c) s = .next (next u) ∧ u.line.inbound = s.line.inbound ∧
          SaleCommitted s v u c l r w b (stems least))) ∧
    (∀ v g, w.given = some g → k.rehearsalRun = false → k.waitHalt = none → k.waitBegin = none → k.timer = none →
      placed s g v →
      ∃ u : State, s.produce (.clock c) = next u ∧ u.line.inbound = s.line.inbound ∧
        SaleCommitted s v u c l r w b (stems g)) ∧
    (s.NoPlace → s.isOn = true → k.state = .held → w.given = none →
      let waiting := fun (x : State) g =>
        (x.setClock c { k with winner := some { w with given := some g }, timer := none }).joinWait (.clock c) .sale
      (∀ f rest g, s.line.inbound = f :: rest → readDesk f = .quantity c w.desk k.tag g →
        exec .quantity s = .next (waiting { s with line := { s.line with inbound := rest } } g)) ∧
      (k.timer = some 0 → exec (.holdTimerExpiry c) s = .next (waiting s least)))) ∧
  (∀ (s : State) (f : DeskFrame) (rest : List DeskFrame) (c d tag : Nat) (g : Given), s.isOn = true →
    s.line.inbound = f :: rest → readDesk f = .quantity c d tag g →
    let k := s.clock c
    let refused := fun (code : DeskCode) (x : ReplyDetail) =>
      exec .quantity s =
        .next (({ s with line := { s.line with inbound := rest } }).offerReply d code (some c) tag x)
    (6 ≤ c → refused .wrongRun (.runTag 0)) ∧
    (c < 6 → (k.state ≠ .held ∨ k.winner = none) → refused .notWinner .nothing) ∧
    (∀ w, c < 6 → k.state = .held → k.winner = some w →
      (w.desk ≠ d → refused .taken .nothing) ∧
      (w.desk = d → tag ≠ k.tag → refused .wrongRun (.runTag k.tag)) ∧
      (w.desk = d → tag = k.tag → w.given ≠ none → refused .taken .nothing))) ∧
  (∀ (u : State) (c position : Nat),
    let k := u.clock c
    let gone := fun (j : Clock) =>
      (u.setClock c j).setPres c
        { u.presOf c with current := none, unrun := false, pending := none, letGo := some 0 }
    u.afterOpen c position =
      (u.setClock c
        { k with
          state := .restartWait, nextStart := some (position - k.set.restartRaise)
          timer := some k.set.restartDelay }).settle ∧
    (k.pausePending = false → u.afterClosed c = (gone k.released).settle) ∧
    (k.pausePending = true →
      u.afterClosed c =
        ((gone { k.released with pausePending := false, cause := none }).raise .auc .clockPaused
          (.number c)).settleQuiet (some c)))

/-- R144, R145, R146, R176: a badge that is known, of an ACTIVE account that no other desk has bound, at a desk that no
other buyer holds, binds the desk and the account; a sign-out of a desk that wins on no clock unbinds them; the refusals
and STATUS_ASK change nothing but the queues of the desk line. -/
def Obligations.DesksSignInAndOut : Prop :=
  ∀ (s : State) (f : DeskFrame) (rest : List DeskFrame) (d : Nat), s.isOn = true → s.line.inbound = f :: rest →
    let u := { s with line := { s.line with inbound := rest } }
    let answer := fun (x : State) (code : DeskCode) (y : ReplyDetail) => x.offerReply d code none 0 y
    (∀ badge, readDesk f = .signIn d badge →
      ((badge = 0 ∨ s.findBadge badge = none) → exec .signIn s = .next (answer u .unknownBadge .nothing)) ∧
      (∀ b, badge ≠ 0 → s.findBadge badge = some b →
        ((s.acct b).state ≠ .active → exec .signIn s = .next (answer u .suspended .nothing)) ∧
        ((s.acct b).state = .active → (∃ e, (s.acct b).desk = some e ∧ e ≠ d) →
          exec .signIn s = .next (answer u .inUse .nothing)) ∧
        ((s.acct b).state = .active → ((s.acct b).desk = none ∨ (s.acct b).desk = some d) →
          (∃ e, (s.desk d).buyer = some e ∧ e ≠ b) → exec .signIn s = .next (answer u .deskBusy .nothing)) ∧
        ((s.acct b).state = .active → ((s.acct b).desk = none ∨ (s.acct b).desk = some d) →
          ((s.desk d).buyer = none ∨ (s.desk d).buyer = some b) →
          exec .signIn s =
            .next (answer ((u.setDesk d { s.desk d with buyer := some b }).setAcct b { s.acct b with desk := some d })
              .signedIn (.badge (some badge)))))) ∧
    (readDesk f = .signOut d →
      ((s.desk d).buyer = none → exec .signOut s = .next (answer u .notSignedIn .nothing)) ∧
      (∀ b, (s.desk d).buyer = some b →
        (s.isWinner d = true → exec .signOut s = .next (answer u .winner .nothing)) ∧
        (s.isWinner d = false →
          exec .signOut s =
            .next (answer ((u.setDesk d { s.desk d with buyer := none }).setAcct b { s.acct b with desk := none })
              .signedOut .nothing)))) ∧
    (readDesk f = .statusAsk d →
      exec .statusAsk s = .next (match (s.desk d).buyer with
        | none => answer u .notSignedIn (.badgeMarks none ((List.range 6).map (s.winMark d)))
        | some b => answer u .signedIn (.badgeMarks (s.acct b).badge ((List.range 6).map (s.winMark d)))))

/-! ## Clock events -/

/-- R75, R103, R70: when the step timer expires, the clock steps to the next position while that is at most 99 and its
price is at or above the reserve; when the settle timer expires in a run of a lot, the provisional winner becomes the
held winner and its desk is answered WON. -/
def Obligations.ClockStepsAndSettles : Prop :=
  ∀ (s : State) (c n : Nat), s.isOn = true →
    let k := s.clock c
    (k.state = .running → k.timer = some 0 → k.position = some n → n + 1 ≤ 99 →
      k.reserve.getD 0 + (n + 1) * k.set.step ≤ k.startPrice.getD 0 →
      exec (.stepTimerExpiry c) s =
        .next (s.setClock c { k with position := some (n + 1), timer := some k.set.interval })) ∧
    (∀ w, k.state = .settling → k.timer = some 0 → k.winner = some w → k.rehearsalRun = false →
      exec (.settleExpiry c) s =
        .next ((s.setClock c { k with state := .held, timer := some k.set.hold }).offerReply w.desk .won (some c) k.tag
          (.positionPrice (some w.position) (k.startPrice.map fun y => y - w.position * k.set.step)))) ∧
    ((k.state ≠ .running ∨ k.timer ≠ some 0) → exec (.stepTimerExpiry c) s = .next s) ∧
    ((k.state ≠ .settling ∨ k.timer ≠ some 0) → exec (.settleExpiry c) s = .next s)

/-- R76, R77, R7, R9, R59, R68: a clock that may not step runs out: its HALT frame is placed, in a free place or by
displacing an ANNOUNCE (R172, R51), and the lot's run-out is counted, without a cap at the 4 that R9 remarks (log entry
35); the lot is re-offered at the tail of the clock's queue while its limit and the queue allow it, and is closed
otherwise, UNSOLD without a purchase and PART_SOLD with one, its closure reported; the reservation is given up, the
clock lets go, pause-pending is given up, and AUC is given CLOCK_RUNOUT. Without a place the clock waits at its position
with its timer stopped, and the run-out is taken when its place comes. -/
def Obligations.RunOutCountsAndReOffers : Prop :=
  ∀ (s : State) (c n l : Nat) (r : LotRec), c < 6 →
    let k := s.clock c
    k.rehearsalRun = false → k.position = some n → k.lot = some l → s.lot l = some r →
    let due := s.isOn = true ∧ k.state = .running ∧ k.timer = some 0 ∧
      (99 < n + 1 ∨ k.startPrice.getD 0 < k.reserve.getD 0 + (n + 1) * k.set.step)
    (∀ v, s.HaltPlaced c .runout n v →
      let u := v.takeRunout c
      let closed := (v.setLot l (some
        { r with
          runouts := r.runouts + 1, state := if r.purchases = [] then .unsold else .partSold, clock := none
          })).reportClosure r.train
      (due → exec (.stepTimerExpiry c) s = .next u.settle) ∧
      (∀ h, k.waitHalt = some h → h.reason = .runout → s.produce (.clock c) = u) ∧
      (r.runouts + 1 ≤ r.reofferLimit → (v.presOf c).queue.length < 8 →
        u.lots = (s.setLot l (some { r with runouts := r.runouts + 1, state := .queued })).lots ∧ u.yard = s.yard ∧
        u.presOf c =
          { v.presOf c with
            queue := (v.presOf c).queue ++ [{ lot := l, origin := .reOffer, announce := none }]
            current := none, unrun := false, pending := none, letGo := some 0 } ∧
        (∀ d, d ≠ c → u.presOf d = v.presOf d) ∧ u.port .yrd = s.port .yrd) ∧
      ((r.reofferLimit < r.runouts + 1 ∨ 8 ≤ (v.presOf c).queue.length) →
        u.lots = closed.lots ∧ u.yard = closed.yard ∧
        u.presOf c =
          { closed.presOf c with current := none, unrun := false, pending := none, letGo := some 0 } ∧
        (∀ d, d ≠ c → u.presOf d = closed.presOf d) ∧ u.port .yrd = closed.port .yrd) ∧
      u.clock c = { k.released with pausePending := false, cause := none, reserved := false } ∧
      (∀ d, d ≠ c → u.clock d = s.clock d) ∧
      u.values = { s.values with reserved := s.values.reserved - if k.reserved then 1 else 0 } ∧
      u.line = v.line ∧ (u.flag .auc 3).pending = true ∧ (u.flag .auc 3).detail = .number c ∧
      u.accounts = s.accounts ∧ u.desks = s.desks ∧ u.journal.places = s.journal.places) ∧
    (s.NoPlace → s.NotWaiting c → due →
      exec (.stepTimerExpiry c) s =
        .next ((s.setClock c
          { k with
            waitHalt := some
              { reason := .runout, position := n, cause := none, candidate := none, replaced := none }
            timer := none }).setWaits (s.line.waits ++ [{ who := .clock c, kind := .halt }])))

/-! ## Yard events -/

/-- R31, R29, R37, R36, R41, R42: a launch time that has reached the window length leaves its group's window and
eligibility is re-examined; a MOVING train whose transit timer has expired is STALLED with cause TRANSIT, and YRD is
given MOVE_STALLED. The move of a MOVING train completes on its last segment when the train occupies that segment alone:
MOVE_DONE is given, and the train is STORED, AT_BAY, or PRESENTING and named to its clock, or CLEARED at once when its
lots are all closed. The closure of the last open lot of a PRESENTING train makes it CLEARED, with TRAIN_CLEARED. -/
def Obligations.YardTimersExpire : Prop :=
  (∀ (s : State) (n : Nat), s.isOn = true →
    (∀ e rest, s.window n = e :: rest → s.yard.windowLength * 1000 ≤ e.age →
      exec (.launchWindowAgeOut n) s = .next ((s.setWindow n rest).reexamine)) ∧
    (∀ e rest, s.window n = e :: rest → e.age < s.yard.windowLength * 1000 →
      exec (.launchWindowAgeOut n) s = .next s) ∧
    ((s.train n).state = .moving → (s.train n).timer = some 0 →
      exec (.transitTimerExpiry n) s =
        .next ((s.setTrain n { s.train n with state := .stalled, cause := some .transit, timer := none }).raise
          .yrd .moveStalled (.number n))) ∧
    (((s.train n).state ≠ .moving ∨ (s.train n).timer ≠ some 0) → exec (.transitTimerExpiry n) s = .next s)) ∧
  (∀ (s : State) (n : Nat),
    let r := s.train n
    let arrived := fun (q : TrainState) (c : Option Nat) =>
      (s.setTrain n { r with state := q, clock := c, move := none, cause := none, timer := none }).raise .yrd .moveDone
        (.number n)
    let cleared := (s.setTrain n { r with state := .cleared }).raise .yrd .trainCleared (.number n)
    (∀ m g x, r.state = .moving → r.move = some m → m.route.getLast? = some g → r.occupied = [g] →
      (s.seg g).state = .occupied n → (s.seg g).layout = some x →
      ((x.kind = .store ∨ x.kind = .stage ∨ x.kind = .track) → s.judgeComplete n = arrived .stored none) ∧
      ((x.kind = .return ∨ ∃ b, x.kind = .bay b) → s.judgeComplete n = arrived .atBay none) ∧
      (∀ c, x.kind = .present c →
        (r.lots.all s.lotClosed = false →
          s.judgeComplete n =
            ((arrived .presenting (some c)).setPres c { s.presOf c with train := some n }).fill c) ∧
        (r.lots.all s.lotClosed = true → s.judgeComplete n = (arrived .presenting (some c)).clearTrain n))) ∧
    ((r.state ≠ .moving ∨ r.move = none ∨
        ∀ m g, r.move = some m → m.route.getLast? = some g → r.occupied ≠ [g] ∨ (s.seg g).state ≠ .occupied n) →
      s.judgeComplete n = s) ∧
    s.reportClosure none = s ∧
    (r.state = .presenting → r.lots.all s.lotClosed = true → s.reportClosure (some n) = s.clearTrain n) ∧
    ((r.state ≠ .presenting ∨ r.lots.all s.lotClosed = false) → s.reportClosure (some n) = s) ∧
    (∀ c, r.clock = some c → (s.presOf c).train = some n →
      s.clearTrain n = cleared.setPres c { s.presOf c with train := none }) ∧
    ((∀ c, r.clock = some c → (s.presOf c).train ≠ some n) → s.clearTrain n = cleared))

/-- R22, R23, R32 to R36: a sense line that changes away from the filtered level is timed by the filter, or taken at
once with a filter time of 0, and one that changes back discards the change; when the filter has timed the change, the
filtered level takes it as one edge. An entry edge on a FREE segment makes it a FAULT and an INTRUSION. On a segment
RESERVED by a train it is an accepted entry when the segment is the train's next: the train occupies it, a train that is
MOVING or STALLED with cause TRANSIT goes on with its timer started afresh, the segments behind that read vacant are
released (log entry 37) and completion is judged; on the segment after the next it is an order fault, and on any other
an intrusion, each of which stalls the train. A leave edge on an OCCUPIED segment behind the head releases it. Every
other edge does nothing. -/
def Obligations.SenseLinesAreFilteredIntoEdges : Prop :=
  (∀ (s : State) (g : Nat) (m : SegLayout), s.isOn = true → g < 128 → (s.seg g).layout = some m →
    let x := s.seg g
    let edge := fun (u : State) (level : Bool) =>
      let v := u.setSeg g { x with level := level, timing := none }
      if level = m.rising then v.entryEdge g else v.leaveEdge g
    (∀ level, s.sensed g ≠ level →
      let u := { s with sense := Tab.set false s.sense g level }
      (level = x.level → exec (.senseLineChange g level) s = .next (u.setSeg g { x with timing := none })) ∧
      (level ≠ x.level → m.filter = 0 → exec (.senseLineChange g level) s = .next (edge u level).settle) ∧
      (level ≠ x.level → m.filter ≠ 0 →
        exec (.senseLineChange g level) s =
          .next (u.setSeg g { x with timing := some { since := s.floorTime, left := m.filter } }))) ∧
    (exec (.senseLineChange g (s.sensed g)) s = .next s) ∧
    (∀ q, x.timing = some q → q.left = 0 → exec (.senseFilterExpiry g) s = .next (edge s (s.sensed g)).settle)) ∧
  (∀ (s : State) (g : Nat),
    let x := s.seg g
    let intruded := fun (reservation : Option Nat) =>
      ((s.setSeg g { x with state := .fault reservation }).raise .sup .intrusion (.number g)).raise .yrd .intrusion
        (.number g)
    (x.state = .free → s.entryEdge g = intruded none) ∧
    (∀ n, (x.state = .occupied n ∨ x.state = .fault (some n) ∨ x.state = .fault none) → s.entryEdge g = s) ∧
    (∀ n m, x.state = .reserved n → (s.train n).move = some m →
      let r := s.train n
      let stalled := fun (u : State) (cause : StallCause) =>
        if r.underWay then
          (u.setTrain n { r with state := .stalled, cause := some cause, timer := none }).raise .yrd .moveStalled
            (.number n)
        else u
      let entered : Train :=
        { r with occupied := r.occupied ++ [g], head := some g, move := some { m with next := m.next + 1 } }
      let u := s.setSeg g { x with state := .occupied n }
      (m.route[m.next]? = some g →
        ((r.state = .moving ∨ r.state = .stalled ∧ r.cause = some .transit) →
          let behind := r.occupied.filter fun h => h ≠ g && (s.seg h).vacant
          s.entryEdge g =
            (State.each (fun h q => q.releaseBehind n h) behind (u.setTrain n
              { entered with
                state := .moving, cause := none, timer := some (s.yard.transitTimeout * 1000) })).judgeComplete n) ∧
        (r.state = .stalled → (r.cause = some .intrusion ∨ r.cause = some .order) →
          s.entryEdge g = u.setTrain n entered)) ∧
      (m.route[m.next]? ≠ some g → m.route[m.next + 1]? = some g → s.entryEdge g = stalled s .order) ∧
      (m.route[m.next]? ≠ some g → m.route[m.next + 1]? ≠ some g →
        s.entryEdge g = stalled (intruded (some n)) .intrusion)) ∧
    (∀ n, x.state = .occupied n →
      ((s.train n).head = some g → s.leaveEdge g = s) ∧
      ((s.train n).head ≠ some g → s.leaveEdge g = s.releaseBehind n g)) ∧
    ((∀ n, x.state ≠ .occupied n) → s.leaveEdge g = s) ∧
    (∀ n,
      s.releaseBehind n g =
        (((s.setSeg g { x with state := .free }).setTrain n
          { s.train n with occupied := (s.train n).occupied.filter (· ≠ g) }).reexamine).judgeComplete n))

/-! ## The desk line, outbound -/

/-- R171 to R175, R50: the frame at the head is begun when the line is idle, and counted; a broadcast sent whole and a
delivered reply leave the queue and free their place; a frame that was disturbed or not delivered stays at the head for
its resend until its third resend has failed, and is then dropped, a reply raising its desk's count. A frame left on the
line by a floor reset leaves the line and is not resent (R179); one that is a reply and is delivered makes its desk
REACHABLE all the same (log entry 26). An event of a frame of the other kind changes nothing (log entry 4). Freed places
are given to the producers that wait, HALT and SALE before RUN and ANNOUNCE and the oldest first, each of which leaves
the wait list and acts on its place; then the presentation unit acts (log entry 14). A HALT, SALE or REPLY that finds
the queue full displaces the oldest ANNOUNCE that is not on the line, which is told to the presentation unit; a reply
that finds no place is dropped, and one that is offered while a producer waits is placed by displacing an ANNOUNCE or
dropped (log entry 28). A REPLY stands behind a head that has been begun, on the line or not (log entry 34). The part
drives the acknowledge slot of its own frames recessive (R168). -/
def Obligations.SentFramesLeaveTheQueue : Prop :=
  (∀ (s : State) (p : OutPlace) (rest : List OutPlace), s.line.outbound = p :: rest →
    (s.isOn = true → s.line.sending = none →
      exec .frameSendBegin s =
        .next ((s.setOutbound ({ p with sent := p.sent + 1 } :: rest)).setSending
          (some { frame := p.frame, wire := p.frame.wire, orphan := false }))) ∧
    (∀ x, s.line.sending = some x → x.orphan = false → x.frame = p.frame →
      let idle := s.setSending none
      let gone := ((s.setSending none).setOutbound rest)
      (p.frame.isReply = false →
        exec .broadcastSent s = .next gone.placeFreed ∧
        exec .disturbance s = .next (if p.sent < 4 then idle else gone.placeFreed) ∧
        exec .replyDelivered s = .next s ∧ exec .replyNotDelivered s = .next s) ∧
      (∀ d code c t y, p.frame = .reply d code c t y →
        let e := s.desk d
        exec .replyDelivered s =
          .next ((gone.setDesk d { e with reachable := true, undelivered := 0 }).placeFreed) ∧
        (e.reachable = true → p.sent < 4 →
          exec .replyNotDelivered s = .next idle ∧ exec .disturbance s = .next idle) ∧
        (e.reachable = true → 4 ≤ p.sent →
          let n := min (e.undelivered + 1) 255
          let dropped :=
            if n = 3 then
              (gone.setDesk d { e with undelivered := n, reachable := false }).raise .sup .deskUnreachable (.number d)
            else gone.setDesk d { e with undelivered := n }
          exec .replyNotDelivered s = .next dropped.placeFreed ∧ exec .disturbance s = .next dropped.placeFreed) ∧
        (e.reachable = false →
          let dropped := gone.setDesk d { e with undelivered := min (e.undelivered + 1) 255 }
          exec .replyNotDelivered s = .next dropped.placeFreed ∧ exec .disturbance s = .next dropped.placeFreed) ∧
        exec .broadcastSent s = .next s)) ∧
    (s.line.waits = [] → rest.length < 16 →
      ((s.setSending none).setOutbound rest).placeFreed = ((s.setSending none).setOutbound rest).settle)) ∧
  (∀ (s : State) (n : Nat),
    let given := State.grantUpTo 14 s
    s.placeFreed = (if given.line.outbound.length < 16 then given.settle else given.judgeClocks none) ∧
    State.grantUpTo 0 s = s ∧
    ((16 ≤ s.line.outbound.length ∨ s.line.waits = []) → State.grantUpTo n s = s) ∧
    (∀ e before behind, s.line.outbound.length < 16 → s.line.waits = before ++ e :: behind →
      ((e.kind = .halt ∨ e.kind = .sale) ∧ (∀ x ∈ before, x.kind = .run ∨ x.kind = .announce) ∨
        before = [] ∧ ∀ x ∈ s.line.waits, x.kind = .run ∨ x.kind = .announce) →
      State.grantUpTo (n + 1) s =
        State.grantUpTo n ((s.setWaits (s.line.waits.filter fun x => x.who ≠ e.who)).produce e.who)) ∧
    (s.line.outbound.length < 16 → s.produce .presentation = State.announceUpTo 1 s) ∧
    (∀ who kind, (∀ x ∈ s.line.waits, x.who ≠ who) →
      s.joinWait who kind = s.setWaits (s.line.waits ++ [{ who := who, kind := kind }])) ∧
    (∀ who kind, (∃ x ∈ s.line.waits, x.who = who) →
      s.joinWait who kind = s.setWaits (s.line.waits.map fun x => if x.who = who then { x with kind := kind } else x))) ∧
  (∀ (s : State) (f : OutFrame),
    let q := s.line.outbound
    let joined := fun (l : List OutPlace) =>
      let p : OutPlace := { frame := f, sent := 0 }
      let begun := l.takeWhile fun x => x.sent ≠ 0
      let rest := l.dropWhile fun x => x.sent ≠ 0
      if f.isReply then
        begun ++ (rest.takeWhile fun x => x.frame.isReply) ++ p :: rest.dropWhile fun x => x.frame.isReply
      else l ++ [p]
    s.RepliesAhead →
    let movable := if s.headOnLine then q.tail else q
    let isAnnounce := fun (x : OutPlace) => ∃ c i l a b d e g h j, x.frame = .announce c i l a b d e g h j
    (q.length < 16 → s.offer f = some (s.setOutbound (joined q))) ∧
    (16 ≤ q.length → s.offer f = s.displaceFor f) ∧
    (f.displaces = true ↔ f.isReply = true ∨ (∃ c t r n p, f = .halt c t r n p) ∨
      ∃ c t m d n p q l k r, f = .sale c t m d n p q l k r) ∧
    (f.displaces = false → s.displaceFor f = none) ∧
    ((∀ x ∈ movable, ¬ isAnnounce x) ↔ displaceFrom s.headOnLine q = none) ∧
    ((∀ x ∈ movable, ¬ isAnnounce x) → s.displaceFor f = none) ∧
    (∀ before behind c i l a b d e g h j m, f.displaces = true →
      q = before ++ { frame := .announce c i l a b d e g h j, sent := m } :: behind →
      (s.headOnLine = true → before ≠ []) →
      (∀ x ∈ if s.headOnLine then before.tail else before, ¬ isAnnounce x) →
      s.displaceFor f = some ((s.setOutbound (joined (before ++ behind))).displaced c l)) ∧
    (∀ x, s.setSending x = { s with line := { s.line with sending := x, ack := false } }) ∧
    (∀ desk code clock tag detail, f = .reply desk code clock tag detail →
      s.offerReply desk code clock tag detail =
        ((if s.line.waits = [] then s.offer f else s.displaceFor f).getD s))) ∧
  (∀ (s : State) (x : Sending), s.line.sending = some x → x.orphan = true →
    (x.frame.isReply = false →
      exec .broadcastSent s = .next (s.setSending none) ∧ exec .disturbance s = .next (s.setSending none)) ∧
    (∀ d code c t y, x.frame = .reply d code c t y →
      exec .replyDelivered s =
        .next ((s.setDesk d { s.desk d with reachable := true, undelivered := 0 }).setSending none) ∧
      exec .replyNotDelivered s = .next (s.setSending none) ∧ exec .disturbance s = .next (s.setSending none)))

/-! ## Supply, reset and time -/

/-- R158, R159, R160, R81: a fall below WARN makes NORMAL LOW, tells SUP and handles each clock by its state; the supply
restored makes LOW NORMAL, tells SUP and re-examines the moves; a fall below FAIL and an active reset line halt the
part, which keeps its retained store and its sensed levels; the supply's return and the released reset line begin the
power-up sequence. That what is lost at the halt stands at its power-up values is log entry 12. That the store is found,
at the supply's return, as the command gives it (`State.find`) is log entry 8. The places of the line and the supply in
the monitor's states, and that a supply which last fell below FAIL is taken as below WARN at the release of the line,
are log entry 22, and that a supply event which does not apply changes nothing is log entry 4. The
warning handles clock 0 first and clock 5 last (log entry 49), sets pause-pending over a stop that waits in a rehearsal
run (log entry 19), and judges loads without announcing (log entry 23). A HALT frame is placed in a free place or by
displacing an ANNOUNCE (R172, R51). -/
def Obligations.SupplyAndResetLine : Prop :=
  (∀ (s : State),
    let powered := fun (m : Monitor) (l : SupplyLevel) (active : Bool) =>
      { s with power := { monitor := m, level := l, resetActive := active } }
    let halted := fun (l : SupplyLevel) (active : Bool) =>
      { State.reset with
        lots := s.lots, accounts := s.accounts, journal := s.journal, change := s.change, sense := s.sense
        ports := Ports.reset, power := { monitor := .off, level := l, resetActive := active }, pending := s.pending }
    let p := s.power
    (p.monitor = .normal → p.level = .good →
      exec .supplyWarn s =
        .next ((State.each (fun c q => q.warnClock c) (List.range 6)
          ((powered .low .belowWarn p.resetActive).raise .sup .supply (.supply false))).judgeClocks none)) ∧
    (p.monitor ≠ .normal → p.level = .good →
      exec .supplyWarn s = .next (powered p.monitor .belowWarn p.resetActive)) ∧
    (p.level ≠ .good → exec .supplyWarn s = .next s) ∧
    (p.monitor = .low → p.level = .belowWarn →
      exec .supplyRestored s =
        .next (((powered .normal .good p.resetActive).raise .sup .supply (.supply true)).reexamine)) ∧
    (p.monitor ≠ .low → p.level = .belowWarn →
      exec .supplyRestored s = .next (powered p.monitor .good p.resetActive)) ∧
    (p.level ≠ .belowWarn → exec .supplyRestored s = .next s) ∧
    (p.monitor = .low → exec .supplyFail s = .next (halted .belowFail p.resetActive)) ∧
    (p.monitor = .normal → ∃ u : State, exec .supplyFail s = .next u ∧
      u = { halted .belowFail p.resetActive with lots := u.lots } ∧
      ∀ k, (u.lot k).map (fun r => { r with state := .registered, clock := none }) =
        (s.lot k).map fun r => { r with state := .registered, clock := none }) ∧
    ((p.monitor = .off ∨ p.monitor = .starting) →
      exec .supplyFail s = .next (powered .off .belowFail p.resetActive)) ∧
    (s.isOn = true → exec .resetLineAssert s = .next (halted p.level true)) ∧
    ((p.monitor = .off ∨ p.monitor = .starting) → exec .resetLineAssert s = .next (powered .off p.level true)) ∧
    (∀ l, p.monitor = .off →
      let u := l.foldl State.find s
      exec (.supplyReturn l) s =
        .next { u with power :=
          { monitor := if p.resetActive then .off else .starting, level := .good, resetActive := p.resetActive } }) ∧
    (∀ l, p.monitor ≠ .off → exec (.supplyReturn l) s = .next s) ∧
    (p.resetActive = true →
      exec .resetLineRelease s =
        .next (powered .starting (if p.level = .good then .good else .belowWarn) false)) ∧
    (p.resetActive = false → exec .resetLineRelease s = .next s)) ∧
  (∀ (s : State) (c n : Nat),
    let k := s.clock c
    let paused := fun (j : Clock) (x : State) (start : Nat) =>
      (x.setClock c (j.pausedAt start .supply)).raise .auc .clockPaused (.number c)
    let pausing := if k.pausePending then s else s.setClock c (k.pausing .supply)
    (k.state = .running → k.position = some n → k.waitHalt = none →
      (∀ v, s.HaltPlaced c .pause n v →
        (k.rehearsalRun = false → s.warnClock c = paused k v n) ∧
        (k.rehearsalRun = true → s.warnClock c = v.setClock c k.rehearsed)) ∧
      (s.NoPlace →
        s.warnClock c =
          (s.setClock c
            { k with
              waitHalt := some
                { reason := .pause, position := n, cause := some .supply, candidate := none, replaced := none }
              timer := none }).joinWait (.clock c) .halt)) ∧
    (∀ w, k.state = .running → k.waitHalt = some w →
      s.warnClock c = if w.reason = .stop then pausing else s) ∧
    ((k.state = .settling ∨ k.state = .held ∨ k.state = .restartWait ∧ k.waitBegin = none) →
      s.warnClock c = pausing) ∧
    (k.state = .restartWait → k.waitBegin ≠ none →
      s.warnClock c =
        paused { k with waitBegin := none } (s.setWaits (s.line.waits.filter fun e => e.who ≠ .clock c))
          (k.nextStart.getD 0)) ∧
    ((k.state = .idle ∨ k.state = .loaded ∨ k.state = .paused) → s.warnClock c = s))

/-- R163, R161, R162, R15, R16, R45, R62, R90, R147, R178, R180: what the power-up sequence leaves. A change record that
passes its check is applied again, a cleared journal place included, and one that fails is discarded. The journal's
values are those of a copy that passes its check, the first before the second, and are rebuilt from the entries when
neither does: the newest sequence is that of the entry issued last, and the held range runs back from it while each
entry carries the sequence before, one entry that fails between two that pass being counted. A lot record that fails its
check is FREE, an open lot REGISTERED on no train and no clock, a closed lot kept; every account has no hold and no
desk, OVER judged, DAMAGED when its check fails; a held entry that fails is marked DAMAGED with the sequence of its
place (log entries 33 and 46); nothing is reserved; everything outside the retained store is at its power-up value; and
RETENTION is pending on SUP with the counts and the rebuilt mark. -/
def Obligations.PowerUpSequenceRestoresThePart : Prop :=
  (∀ (s : State), s.power.monitor = .starting → s.TablesWf →
    let b := match s.change with
      | none => s
      | some x => { if x.passes then s.applyChange x.change else s with change := none }
    let v :=
      if b.journal.copy1.passes then b.journal.copy1.values
      else if b.journal.copy2.passes then b.journal.copy2.values
      else b.rebuiltValues
    let at' := fun (i : Nat) => (v.oldestPlace + i) % 8192
    let seqAt := fun (i : Nat) => seqBack (v.newest.getD 0) (v.used - 1 - i)
    let fails := fun (i : Nat) => (b.goodEntry (at' i)).isNone
    let up (j : JournalValues) : ValuesCopy := { values := { j with reserved := 0 }, found := none }
    let detail := Detail.retention (b.lots.countP fun c => !c.2.passes) (b.accounts.countP fun c => !c.2.passes)
      ((List.range v.used).countP fails) (!b.journal.copy1.passes && !b.journal.copy2.passes)
    ∃ u : State, exec .powerUpSequence s = .next u ∧
      (∀ k, u.lot k =
        if (Tab.get LotCell.free b.lots k).passes then
          (b.lot k).map fun r =>
            if r.state.closed then { r with train := none }
            else { r with state := .registered, train := none, clock := none }
        else none) ∧
      (∀ n,
        let a := b.acct n
        u.acct n =
          { a with
            heldAmt := 0, desk := none
            state := if (Tab.get AcctCell.vacant b.accounts n).passes then a.state else .damaged
            isOver := a.saturated || decide (a.limit < a.openAmt + a.billedAmt) }) ∧
      u.journal.copy1 = up v ∧ u.journal.copy2 = up v ∧
      (v.used ≤ 8192 →
        (∀ i, i < v.used → u.place (at' i) =
          match b.place (at' i) with
          | none => some (clearedEntry (seqAt i))
          | some e => if entryPasses e then some e else some { e with seq := seqAt i, damaged := true }) ∧
        (∀ k, (∀ i, i < v.used → k ≠ at' i) → u.place k = b.place k)) ∧
      (let w : State :=
          { State.reset with
            lots := u.lots, accounts := u.accounts, journal := u.journal, sense := s.sense, pending := s.pending
            ports := { Ports.reset with
              sup := { PortCtx.reset 6 with flags := [(2, { pending := true, again := false, detail := detail })] } }
            power := { s.power with monitor := if s.power.level = .good then .normal else .low } }
       u = if s.power.level = .good then w else w.raise .sup .supply (.supply false))) ∧
  (∀ (s : State) (r : ChangeRec), (r.lots.map (·.1)).Nodup → (r.accounts.map (·.1)).Nodup →
    (r.entries.map (·.1)).Nodup →
    let b := s.applyChange r
    (∀ k x, (k, x) ∈ r.lots → Tab.get LotCell.free b.lots k = { lot := x, found := none }) ∧
    (∀ k, k ∉ r.lots.map (·.1) → Tab.get LotCell.free b.lots k = Tab.get LotCell.free s.lots k) ∧
    (∀ n x, (n, x) ∈ r.accounts → Tab.get AcctCell.vacant b.accounts n = { acct := x, found := none }) ∧
    (∀ n, n ∉ r.accounts.map (·.1) → Tab.get AcctCell.vacant b.accounts n = Tab.get AcctCell.vacant s.accounts n) ∧
    (∀ k x, (k, x) ∈ r.entries → b.place k = x) ∧ (∀ k, k ∉ r.entries.map (·.1) → b.place k = s.place k) ∧
    (r.values = none → b.journal.copy1 = s.journal.copy1 ∧ b.journal.copy2 = s.journal.copy2) ∧
    (∀ x, r.values = some x →
      b.journal.copy1 = { values := x, found := none } ∧ b.journal.copy2 = { values := x, found := none }) ∧
    b = { s with lots := b.lots, accounts := b.accounts, journal := b.journal }) ∧
  (∀ (s : State),
    let back := fun (k i : Nat) => (k + 8192 - i) % 8192
    ((∀ x ∈ s.journal.places, ∀ e, x.2 = some e → entryPasses e = false) → s.rebuiltValues = JournalValues.empty) ∧
    (∀ (k m : Nat) (e : JEntry) (hole : Nat → Bool), k < 8192 → s.TablesWf → s.goodEntry k = some e →
      1 ≤ e.seq → e.seq ≤ 4294967295 →
      (∀ x ∈ s.journal.places, ∀ y, x.2 = some y → entryPasses y = true → x.1 ≠ k → seqLater e.seq y.seq = true) →
      1 ≤ m → m ≤ 8192 → hole 0 = false → hole (m - 1) = false → (∀ i, hole i = true → hole (i + 1) = false) →
      (∀ i, i < m → hole i = true → s.goodEntry (back k i) = none) →
      (∀ i, i < m → hole i = false → ∃ y, s.goodEntry (back k i) = some y ∧ y.seq = seqBack e.seq i) →
      (m < 8192 →
        (∀ y, s.goodEntry (back k m) = some y → y.seq ≠ seqBack e.seq m) ∧
        (m < 8191 → s.goodEntry (back k m) = none →
          ∀ y, s.goodEntry (back k (m + 1)) = some y → y.seq ≠ seqBack e.seq (m + 1))) →
      s.rebuiltValues =
        { used := m, reserved := 0, newest := some e.seq, oldestPlace := (k + 8193 - m) % 8192 }))

/-- R193, R47, R57, R31: a millisecond of the reference clock advances the floor time by 1, 0 following 4,294,967,295;
every age counts 1 up, without a bound (log entry 55), and every timer 1 down, and nothing else changes. A timer that
has run out stays at 0 until its expiry is taken (log entry 5). -/
def Obligations.MillisecondCountsTimeAgesAndTimers : Prop :=
  ∀ (s : State), s.isOn = true → s.TablesWf →
    ∃ u : State, exec .floorTimeMillisecond s = .next u ∧
      u.floorTime = (s.floorTime + 1) % 4294967296 ∧
      (∀ c, u.clock c = { s.clock c with timer := (s.clock c).timer.map (· - 1) }) ∧
      (∀ c, u.presOf c =
        { s.presOf c with
          letGo := (s.presOf c).letGo.map (· + 1)
          current := (s.presOf c).current.map fun a => { a with age := a.age + 1 }
          queue := (s.presOf c).queue.map fun e =>
            { e with announce := e.announce.map fun a => { a with age := a.age + 1 } } }) ∧
      (∀ n, u.train n = { s.train n with timer := (s.train n).timer.map (· - 1) }) ∧
      (∀ g, u.window g = (s.window g).map fun e => { e with age := e.age + 1 }) ∧
      (∀ g, u.seg g = { s.seg g with timing := (s.seg g).timing.map fun q => { q with left := q.left - 1 } }) ∧
      u.yard = { s.yard with segs := u.yard.segs, trains := u.yard.trains, windows := u.yard.windows } ∧
      u = { s with floorTime := u.floorTime, clocks := u.clocks, pres := u.pres, yard := u.yard }
end

