-- ==== Sys2Proof/Laws/State.lean ====
section
/-! SUPPORT. Laws/State.lean: what each write of a record leaves in each field of State, and what each read gives after
a write of another record. All true by unfolding; later proofs cite these and unfold no record update. -/

namespace Sys2Proof.Machine

variable (s : State)

/-! ### setLot -/

@[simp] theorem State.setLot_lots (k : Nat) (r : Option LotRec) : (s.setLot k r).lots = Tab.set LotCell.free s.lots k { lot := r, found := none } := rfl
@[simp] theorem State.setLot_accounts (k : Nat) (r : Option LotRec) : (s.setLot k r).accounts = s.accounts := rfl
@[simp] theorem State.setLot_journal (k : Nat) (r : Option LotRec) : (s.setLot k r).journal = s.journal := rfl
@[simp] theorem State.setLot_change (k : Nat) (r : Option LotRec) : (s.setLot k r).change = s.change := rfl
@[simp] theorem State.setLot_yard (k : Nat) (r : Option LotRec) : (s.setLot k r).yard = s.yard := rfl
@[simp] theorem State.setLot_sense (k : Nat) (r : Option LotRec) : (s.setLot k r).sense = s.sense := rfl
@[simp] theorem State.setLot_pres (k : Nat) (r : Option LotRec) : (s.setLot k r).pres = s.pres := rfl
@[simp] theorem State.setLot_rotation (k : Nat) (r : Option LotRec) : (s.setLot k r).rotation = s.rotation := rfl
@[simp] theorem State.setLot_clocks (k : Nat) (r : Option LotRec) : (s.setLot k r).clocks = s.clocks := rfl
@[simp] theorem State.setLot_fees (k : Nat) (r : Option LotRec) : (s.setLot k r).fees = s.fees := rfl
@[simp] theorem State.setLot_desks (k : Nat) (r : Option LotRec) : (s.setLot k r).desks = s.desks := rfl
@[simp] theorem State.setLot_line (k : Nat) (r : Option LotRec) : (s.setLot k r).line = s.line := rfl
@[simp] theorem State.setLot_ports (k : Nat) (r : Option LotRec) : (s.setLot k r).ports = s.ports := rfl
@[simp] theorem State.setLot_floorTime (k : Nat) (r : Option LotRec) : (s.setLot k r).floorTime = s.floorTime := rfl
@[simp] theorem State.setLot_power (k : Nat) (r : Option LotRec) : (s.setLot k r).power = s.power := rfl
@[simp] theorem State.setLot_pending (k : Nat) (r : Option LotRec) : (s.setLot k r).pending = s.pending := rfl
@[simp] theorem State.setLot_acct (k : Nat) (r : Option LotRec) (j : Nat) : (s.setLot k r).acct j = s.acct j := rfl
@[simp] theorem State.setLot_desk (k : Nat) (r : Option LotRec) (j : Nat) : (s.setLot k r).desk j = s.desk j := rfl
@[simp] theorem State.setLot_fee (k : Nat) (r : Option LotRec) (j : Nat) : (s.setLot k r).fee j = s.fee j := rfl
@[simp] theorem State.setLot_seg (k : Nat) (r : Option LotRec) (j : Nat) : (s.setLot k r).seg j = s.seg j := rfl
@[simp] theorem State.setLot_train (k : Nat) (r : Option LotRec) (j : Nat) : (s.setLot k r).train j = s.train j := rfl
@[simp] theorem State.setLot_window (k : Nat) (r : Option LotRec) (j : Nat) : (s.setLot k r).window j = s.window j := rfl
@[simp] theorem State.setLot_sensed (k : Nat) (r : Option LotRec) (j : Nat) : (s.setLot k r).sensed j = s.sensed j := rfl
@[simp] theorem State.setLot_presOf (k : Nat) (r : Option LotRec) (j : Nat) : (s.setLot k r).presOf j = s.presOf j := rfl
@[simp] theorem State.setLot_clock (k : Nat) (r : Option LotRec) (j : Nat) : (s.setLot k r).clock j = s.clock j := rfl
@[simp] theorem State.setLot_port (k : Nat) (r : Option LotRec) (o : Port) : (s.setLot k r).port o = s.port o := rfl
@[simp] theorem State.setLot_values (k : Nat) (r : Option LotRec) : (s.setLot k r).values = s.values := rfl
@[simp] theorem State.setLot_place (k : Nat) (r : Option LotRec) (j : Nat) : (s.setLot k r).place j = s.place j := rfl
@[simp] theorem State.setLot_isOn (k : Nat) (r : Option LotRec) : (s.setLot k r).isOn = s.isOn := rfl
@[simp] theorem State.setLot_supplyOk (k : Nat) (r : Option LotRec) : (s.setLot k r).supplyOk = s.supplyOk := rfl

/-! ### setAcct -/

@[simp] theorem State.setAcct_lots (b : Nat) (a : Account) : (s.setAcct b a).lots = s.lots := rfl
@[simp] theorem State.setAcct_accounts (b : Nat) (a : Account) : (s.setAcct b a).accounts = Tab.set AcctCell.vacant s.accounts b { acct := a, found := none } := rfl
@[simp] theorem State.setAcct_journal (b : Nat) (a : Account) : (s.setAcct b a).journal = s.journal := rfl
@[simp] theorem State.setAcct_change (b : Nat) (a : Account) : (s.setAcct b a).change = s.change := rfl
@[simp] theorem State.setAcct_yard (b : Nat) (a : Account) : (s.setAcct b a).yard = s.yard := rfl
@[simp] theorem State.setAcct_sense (b : Nat) (a : Account) : (s.setAcct b a).sense = s.sense := rfl
@[simp] theorem State.setAcct_pres (b : Nat) (a : Account) : (s.setAcct b a).pres = s.pres := rfl
@[simp] theorem State.setAcct_rotation (b : Nat) (a : Account) : (s.setAcct b a).rotation = s.rotation := rfl
@[simp] theorem State.setAcct_clocks (b : Nat) (a : Account) : (s.setAcct b a).clocks = s.clocks := rfl
@[simp] theorem State.setAcct_fees (b : Nat) (a : Account) : (s.setAcct b a).fees = s.fees := rfl
@[simp] theorem State.setAcct_desks (b : Nat) (a : Account) : (s.setAcct b a).desks = s.desks := rfl
@[simp] theorem State.setAcct_line (b : Nat) (a : Account) : (s.setAcct b a).line = s.line := rfl
@[simp] theorem State.setAcct_ports (b : Nat) (a : Account) : (s.setAcct b a).ports = s.ports := rfl
@[simp] theorem State.setAcct_floorTime (b : Nat) (a : Account) : (s.setAcct b a).floorTime = s.floorTime := rfl
@[simp] theorem State.setAcct_power (b : Nat) (a : Account) : (s.setAcct b a).power = s.power := rfl
@[simp] theorem State.setAcct_pending (b : Nat) (a : Account) : (s.setAcct b a).pending = s.pending := rfl
@[simp] theorem State.setAcct_lot (b : Nat) (a : Account) (j : Nat) : (s.setAcct b a).lot j = s.lot j := rfl
@[simp] theorem State.setAcct_desk (b : Nat) (a : Account) (j : Nat) : (s.setAcct b a).desk j = s.desk j := rfl
@[simp] theorem State.setAcct_fee (b : Nat) (a : Account) (j : Nat) : (s.setAcct b a).fee j = s.fee j := rfl
@[simp] theorem State.setAcct_seg (b : Nat) (a : Account) (j : Nat) : (s.setAcct b a).seg j = s.seg j := rfl
@[simp] theorem State.setAcct_train (b : Nat) (a : Account) (j : Nat) : (s.setAcct b a).train j = s.train j := rfl
@[simp] theorem State.setAcct_window (b : Nat) (a : Account) (j : Nat) : (s.setAcct b a).window j = s.window j := rfl
@[simp] theorem State.setAcct_sensed (b : Nat) (a : Account) (j : Nat) : (s.setAcct b a).sensed j = s.sensed j := rfl
@[simp] theorem State.setAcct_presOf (b : Nat) (a : Account) (j : Nat) : (s.setAcct b a).presOf j = s.presOf j := rfl
@[simp] theorem State.setAcct_clock (b : Nat) (a : Account) (j : Nat) : (s.setAcct b a).clock j = s.clock j := rfl
@[simp] theorem State.setAcct_port (b : Nat) (a : Account) (o : Port) : (s.setAcct b a).port o = s.port o := rfl
@[simp] theorem State.setAcct_values (b : Nat) (a : Account) : (s.setAcct b a).values = s.values := rfl
@[simp] theorem State.setAcct_place (b : Nat) (a : Account) (j : Nat) : (s.setAcct b a).place j = s.place j := rfl
@[simp] theorem State.setAcct_isOn (b : Nat) (a : Account) : (s.setAcct b a).isOn = s.isOn := rfl
@[simp] theorem State.setAcct_supplyOk (b : Nat) (a : Account) : (s.setAcct b a).supplyOk = s.supplyOk := rfl

/-! ### setDesk -/

@[simp] theorem State.setDesk_lots (d : Nat) (e : Desk) : (s.setDesk d e).lots = s.lots := rfl
@[simp] theorem State.setDesk_accounts (d : Nat) (e : Desk) : (s.setDesk d e).accounts = s.accounts := rfl
@[simp] theorem State.setDesk_journal (d : Nat) (e : Desk) : (s.setDesk d e).journal = s.journal := rfl
@[simp] theorem State.setDesk_change (d : Nat) (e : Desk) : (s.setDesk d e).change = s.change := rfl
@[simp] theorem State.setDesk_yard (d : Nat) (e : Desk) : (s.setDesk d e).yard = s.yard := rfl
@[simp] theorem State.setDesk_sense (d : Nat) (e : Desk) : (s.setDesk d e).sense = s.sense := rfl
@[simp] theorem State.setDesk_pres (d : Nat) (e : Desk) : (s.setDesk d e).pres = s.pres := rfl
@[simp] theorem State.setDesk_rotation (d : Nat) (e : Desk) : (s.setDesk d e).rotation = s.rotation := rfl
@[simp] theorem State.setDesk_clocks (d : Nat) (e : Desk) : (s.setDesk d e).clocks = s.clocks := rfl
@[simp] theorem State.setDesk_fees (d : Nat) (e : Desk) : (s.setDesk d e).fees = s.fees := rfl
@[simp] theorem State.setDesk_desks (d : Nat) (e : Desk) : (s.setDesk d e).desks = Tab.set Desk.reset s.desks d e := rfl
@[simp] theorem State.setDesk_line (d : Nat) (e : Desk) : (s.setDesk d e).line = s.line := rfl
@[simp] theorem State.setDesk_ports (d : Nat) (e : Desk) : (s.setDesk d e).ports = s.ports := rfl
@[simp] theorem State.setDesk_floorTime (d : Nat) (e : Desk) : (s.setDesk d e).floorTime = s.floorTime := rfl
@[simp] theorem State.setDesk_power (d : Nat) (e : Desk) : (s.setDesk d e).power = s.power := rfl
@[simp] theorem State.setDesk_pending (d : Nat) (e : Desk) : (s.setDesk d e).pending = s.pending := rfl
@[simp] theorem State.setDesk_lot (d : Nat) (e : Desk) (j : Nat) : (s.setDesk d e).lot j = s.lot j := rfl
@[simp] theorem State.setDesk_acct (d : Nat) (e : Desk) (j : Nat) : (s.setDesk d e).acct j = s.acct j := rfl
@[simp] theorem State.setDesk_fee (d : Nat) (e : Desk) (j : Nat) : (s.setDesk d e).fee j = s.fee j := rfl
@[simp] theorem State.setDesk_seg (d : Nat) (e : Desk) (j : Nat) : (s.setDesk d e).seg j = s.seg j := rfl
@[simp] theorem State.setDesk_train (d : Nat) (e : Desk) (j : Nat) : (s.setDesk d e).train j = s.train j := rfl
@[simp] theorem State.setDesk_window (d : Nat) (e : Desk) (j : Nat) : (s.setDesk d e).window j = s.window j := rfl
@[simp] theorem State.setDesk_sensed (d : Nat) (e : Desk) (j : Nat) : (s.setDesk d e).sensed j = s.sensed j := rfl
@[simp] theorem State.setDesk_presOf (d : Nat) (e : Desk) (j : Nat) : (s.setDesk d e).presOf j = s.presOf j := rfl
@[simp] theorem State.setDesk_clock (d : Nat) (e : Desk) (j : Nat) : (s.setDesk d e).clock j = s.clock j := rfl
@[simp] theorem State.setDesk_port (d : Nat) (e : Desk) (o : Port) : (s.setDesk d e).port o = s.port o := rfl
@[simp] theorem State.setDesk_values (d : Nat) (e : Desk) : (s.setDesk d e).values = s.values := rfl
@[simp] theorem State.setDesk_place (d : Nat) (e : Desk) (j : Nat) : (s.setDesk d e).place j = s.place j := rfl
@[simp] theorem State.setDesk_isOn (d : Nat) (e : Desk) : (s.setDesk d e).isOn = s.isOn := rfl
@[simp] theorem State.setDesk_supplyOk (d : Nat) (e : Desk) : (s.setDesk d e).supplyOk = s.supplyOk := rfl

/-! ### setSeg -/

@[simp] theorem State.setSeg_lots (g : Nat) (x : Segment) : (s.setSeg g x).lots = s.lots := rfl
@[simp] theorem State.setSeg_accounts (g : Nat) (x : Segment) : (s.setSeg g x).accounts = s.accounts := rfl
@[simp] theorem State.setSeg_journal (g : Nat) (x : Segment) : (s.setSeg g x).journal = s.journal := rfl
@[simp] theorem State.setSeg_change (g : Nat) (x : Segment) : (s.setSeg g x).change = s.change := rfl
@[simp] theorem State.setSeg_yard (g : Nat) (x : Segment) : (s.setSeg g x).yard = { s.yard with segs := Tab.set Segment.undefined s.yard.segs g x } := rfl
@[simp] theorem State.setSeg_sense (g : Nat) (x : Segment) : (s.setSeg g x).sense = s.sense := rfl
@[simp] theorem State.setSeg_pres (g : Nat) (x : Segment) : (s.setSeg g x).pres = s.pres := rfl
@[simp] theorem State.setSeg_rotation (g : Nat) (x : Segment) : (s.setSeg g x).rotation = s.rotation := rfl
@[simp] theorem State.setSeg_clocks (g : Nat) (x : Segment) : (s.setSeg g x).clocks = s.clocks := rfl
@[simp] theorem State.setSeg_fees (g : Nat) (x : Segment) : (s.setSeg g x).fees = s.fees := rfl
@[simp] theorem State.setSeg_desks (g : Nat) (x : Segment) : (s.setSeg g x).desks = s.desks := rfl
@[simp] theorem State.setSeg_line (g : Nat) (x : Segment) : (s.setSeg g x).line = s.line := rfl
@[simp] theorem State.setSeg_ports (g : Nat) (x : Segment) : (s.setSeg g x).ports = s.ports := rfl
@[simp] theorem State.setSeg_floorTime (g : Nat) (x : Segment) : (s.setSeg g x).floorTime = s.floorTime := rfl
@[simp] theorem State.setSeg_power (g : Nat) (x : Segment) : (s.setSeg g x).power = s.power := rfl
@[simp] theorem State.setSeg_pending (g : Nat) (x : Segment) : (s.setSeg g x).pending = s.pending := rfl
@[simp] theorem State.setSeg_lot (g : Nat) (x : Segment) (j : Nat) : (s.setSeg g x).lot j = s.lot j := rfl
@[simp] theorem State.setSeg_acct (g : Nat) (x : Segment) (j : Nat) : (s.setSeg g x).acct j = s.acct j := rfl
@[simp] theorem State.setSeg_desk (g : Nat) (x : Segment) (j : Nat) : (s.setSeg g x).desk j = s.desk j := rfl
@[simp] theorem State.setSeg_fee (g : Nat) (x : Segment) (j : Nat) : (s.setSeg g x).fee j = s.fee j := rfl
@[simp] theorem State.setSeg_sensed (g : Nat) (x : Segment) (j : Nat) : (s.setSeg g x).sensed j = s.sensed j := rfl
@[simp] theorem State.setSeg_presOf (g : Nat) (x : Segment) (j : Nat) : (s.setSeg g x).presOf j = s.presOf j := rfl
@[simp] theorem State.setSeg_clock (g : Nat) (x : Segment) (j : Nat) : (s.setSeg g x).clock j = s.clock j := rfl
@[simp] theorem State.setSeg_port (g : Nat) (x : Segment) (o : Port) : (s.setSeg g x).port o = s.port o := rfl
@[simp] theorem State.setSeg_values (g : Nat) (x : Segment) : (s.setSeg g x).values = s.values := rfl
@[simp] theorem State.setSeg_place (g : Nat) (x : Segment) (j : Nat) : (s.setSeg g x).place j = s.place j := rfl
@[simp] theorem State.setSeg_isOn (g : Nat) (x : Segment) : (s.setSeg g x).isOn = s.isOn := rfl
@[simp] theorem State.setSeg_supplyOk (g : Nat) (x : Segment) : (s.setSeg g x).supplyOk = s.supplyOk := rfl

/-! ### setTrain -/

@[simp] theorem State.setTrain_lots (t : Nat) (r : Train) : (s.setTrain t r).lots = s.lots := rfl
@[simp] theorem State.setTrain_accounts (t : Nat) (r : Train) : (s.setTrain t r).accounts = s.accounts := rfl
@[simp] theorem State.setTrain_journal (t : Nat) (r : Train) : (s.setTrain t r).journal = s.journal := rfl
@[simp] theorem State.setTrain_change (t : Nat) (r : Train) : (s.setTrain t r).change = s.change := rfl
@[simp] theorem State.setTrain_yard (t : Nat) (r : Train) : (s.setTrain t r).yard = { s.yard with trains := Tab.set Train.empty s.yard.trains t r } := rfl
@[simp] theorem State.setTrain_sense (t : Nat) (r : Train) : (s.setTrain t r).sense = s.sense := rfl
@[simp] theorem State.setTrain_pres (t : Nat) (r : Train) : (s.setTrain t r).pres = s.pres := rfl
@[simp] theorem State.setTrain_rotation (t : Nat) (r : Train) : (s.setTrain t r).rotation = s.rotation := rfl
@[simp] theorem State.setTrain_clocks (t : Nat) (r : Train) : (s.setTrain t r).clocks = s.clocks := rfl
@[simp] theorem State.setTrain_fees (t : Nat) (r : Train) : (s.setTrain t r).fees = s.fees := rfl
@[simp] theorem State.setTrain_desks (t : Nat) (r : Train) : (s.setTrain t r).desks = s.desks := rfl
@[simp] theorem State.setTrain_line (t : Nat) (r : Train) : (s.setTrain t r).line = s.line := rfl
@[simp] theorem State.setTrain_ports (t : Nat) (r : Train) : (s.setTrain t r).ports = s.ports := rfl
@[simp] theorem State.setTrain_floorTime (t : Nat) (r : Train) : (s.setTrain t r).floorTime = s.floorTime := rfl
@[simp] theorem State.setTrain_power (t : Nat) (r : Train) : (s.setTrain t r).power = s.power := rfl
@[simp] theorem State.setTrain_pending (t : Nat) (r : Train) : (s.setTrain t r).pending = s.pending := rfl
@[simp] theorem State.setTrain_lot (t : Nat) (r : Train) (j : Nat) : (s.setTrain t r).lot j = s.lot j := rfl
@[simp] theorem State.setTrain_acct (t : Nat) (r : Train) (j : Nat) : (s.setTrain t r).acct j = s.acct j := rfl
@[simp] theorem State.setTrain_desk (t : Nat) (r : Train) (j : Nat) : (s.setTrain t r).desk j = s.desk j := rfl
@[simp] theorem State.setTrain_fee (t : Nat) (r : Train) (j : Nat) : (s.setTrain t r).fee j = s.fee j := rfl
@[simp] theorem State.setTrain_sensed (t : Nat) (r : Train) (j : Nat) : (s.setTrain t r).sensed j = s.sensed j := rfl
@[simp] theorem State.setTrain_presOf (t : Nat) (r : Train) (j : Nat) : (s.setTrain t r).presOf j = s.presOf j := rfl
@[simp] theorem State.setTrain_clock (t : Nat) (r : Train) (j : Nat) : (s.setTrain t r).clock j = s.clock j := rfl
@[simp] theorem State.setTrain_port (t : Nat) (r : Train) (o : Port) : (s.setTrain t r).port o = s.port o := rfl
@[simp] theorem State.setTrain_values (t : Nat) (r : Train) : (s.setTrain t r).values = s.values := rfl
@[simp] theorem State.setTrain_place (t : Nat) (r : Train) (j : Nat) : (s.setTrain t r).place j = s.place j := rfl
@[simp] theorem State.setTrain_isOn (t : Nat) (r : Train) : (s.setTrain t r).isOn = s.isOn := rfl
@[simp] theorem State.setTrain_supplyOk (t : Nat) (r : Train) : (s.setTrain t r).supplyOk = s.supplyOk := rfl

/-! ### setWindow -/

@[simp] theorem State.setWindow_lots (g : Nat) (w : List Launch) : (s.setWindow g w).lots = s.lots := rfl
@[simp] theorem State.setWindow_accounts (g : Nat) (w : List Launch) : (s.setWindow g w).accounts = s.accounts := rfl
@[simp] theorem State.setWindow_journal (g : Nat) (w : List Launch) : (s.setWindow g w).journal = s.journal := rfl
@[simp] theorem State.setWindow_change (g : Nat) (w : List Launch) : (s.setWindow g w).change = s.change := rfl
@[simp] theorem State.setWindow_yard (g : Nat) (w : List Launch) : (s.setWindow g w).yard = { s.yard with windows := Tab.set [] s.yard.windows g w } := rfl
@[simp] theorem State.setWindow_sense (g : Nat) (w : List Launch) : (s.setWindow g w).sense = s.sense := rfl
@[simp] theorem State.setWindow_pres (g : Nat) (w : List Launch) : (s.setWindow g w).pres = s.pres := rfl
@[simp] theorem State.setWindow_rotation (g : Nat) (w : List Launch) : (s.setWindow g w).rotation = s.rotation := rfl
@[simp] theorem State.setWindow_clocks (g : Nat) (w : List Launch) : (s.setWindow g w).clocks = s.clocks := rfl
@[simp] theorem State.setWindow_fees (g : Nat) (w : List Launch) : (s.setWindow g w).fees = s.fees := rfl
@[simp] theorem State.setWindow_desks (g : Nat) (w : List Launch) : (s.setWindow g w).desks = s.desks := rfl
@[simp] theorem State.setWindow_line (g : Nat) (w : List Launch) : (s.setWindow g w).line = s.line := rfl
@[simp] theorem State.setWindow_ports (g : Nat) (w : List Launch) : (s.setWindow g w).ports = s.ports := rfl
@[simp] theorem State.setWindow_floorTime (g : Nat) (w : List Launch) : (s.setWindow g w).floorTime = s.floorTime := rfl
@[simp] theorem State.setWindow_power (g : Nat) (w : List Launch) : (s.setWindow g w).power = s.power := rfl
@[simp] theorem State.setWindow_pending (g : Nat) (w : List Launch) : (s.setWindow g w).pending = s.pending := rfl
@[simp] theorem State.setWindow_lot (g : Nat) (w : List Launch) (j : Nat) : (s.setWindow g w).lot j = s.lot j := rfl
@[simp] theorem State.setWindow_acct (g : Nat) (w : List Launch) (j : Nat) : (s.setWindow g w).acct j = s.acct j := rfl
@[simp] theorem State.setWindow_desk (g : Nat) (w : List Launch) (j : Nat) : (s.setWindow g w).desk j = s.desk j := rfl
@[simp] theorem State.setWindow_fee (g : Nat) (w : List Launch) (j : Nat) : (s.setWindow g w).fee j = s.fee j := rfl
@[simp] theorem State.setWindow_sensed (g : Nat) (w : List Launch) (j : Nat) : (s.setWindow g w).sensed j = s.sensed j := rfl
@[simp] theorem State.setWindow_presOf (g : Nat) (w : List Launch) (j : Nat) : (s.setWindow g w).presOf j = s.presOf j := rfl
@[simp] theorem State.setWindow_clock (g : Nat) (w : List Launch) (j : Nat) : (s.setWindow g w).clock j = s.clock j := rfl
@[simp] theorem State.setWindow_port (g : Nat) (w : List Launch) (o : Port) : (s.setWindow g w).port o = s.port o := rfl
@[simp] theorem State.setWindow_values (g : Nat) (w : List Launch) : (s.setWindow g w).values = s.values := rfl
@[simp] theorem State.setWindow_place (g : Nat) (w : List Launch) (j : Nat) : (s.setWindow g w).place j = s.place j := rfl
@[simp] theorem State.setWindow_isOn (g : Nat) (w : List Launch) : (s.setWindow g w).isOn = s.isOn := rfl
@[simp] theorem State.setWindow_supplyOk (g : Nat) (w : List Launch) : (s.setWindow g w).supplyOk = s.supplyOk := rfl

/-! ### setMoves -/

@[simp] theorem State.setMoves_lots (l : List Nat) : (s.setMoves l).lots = s.lots := rfl
@[simp] theorem State.setMoves_accounts (l : List Nat) : (s.setMoves l).accounts = s.accounts := rfl
@[simp] theorem State.setMoves_journal (l : List Nat) : (s.setMoves l).journal = s.journal := rfl
@[simp] theorem State.setMoves_change (l : List Nat) : (s.setMoves l).change = s.change := rfl
@[simp] theorem State.setMoves_yard (l : List Nat) : (s.setMoves l).yard = { s.yard with moves := l } := rfl
@[simp] theorem State.setMoves_sense (l : List Nat) : (s.setMoves l).sense = s.sense := rfl
@[simp] theorem State.setMoves_pres (l : List Nat) : (s.setMoves l).pres = s.pres := rfl
@[simp] theorem State.setMoves_rotation (l : List Nat) : (s.setMoves l).rotation = s.rotation := rfl
@[simp] theorem State.setMoves_clocks (l : List Nat) : (s.setMoves l).clocks = s.clocks := rfl
@[simp] theorem State.setMoves_fees (l : List Nat) : (s.setMoves l).fees = s.fees := rfl
@[simp] theorem State.setMoves_desks (l : List Nat) : (s.setMoves l).desks = s.desks := rfl
@[simp] theorem State.setMoves_line (l : List Nat) : (s.setMoves l).line = s.line := rfl
@[simp] theorem State.setMoves_ports (l : List Nat) : (s.setMoves l).ports = s.ports := rfl
@[simp] theorem State.setMoves_floorTime (l : List Nat) : (s.setMoves l).floorTime = s.floorTime := rfl
@[simp] theorem State.setMoves_power (l : List Nat) : (s.setMoves l).power = s.power := rfl
@[simp] theorem State.setMoves_pending (l : List Nat) : (s.setMoves l).pending = s.pending := rfl
@[simp] theorem State.setMoves_lot (l : List Nat) (j : Nat) : (s.setMoves l).lot j = s.lot j := rfl
@[simp] theorem State.setMoves_acct (l : List Nat) (j : Nat) : (s.setMoves l).acct j = s.acct j := rfl
@[simp] theorem State.setMoves_desk (l : List Nat) (j : Nat) : (s.setMoves l).desk j = s.desk j := rfl
@[simp] theorem State.setMoves_fee (l : List Nat) (j : Nat) : (s.setMoves l).fee j = s.fee j := rfl
@[simp] theorem State.setMoves_sensed (l : List Nat) (j : Nat) : (s.setMoves l).sensed j = s.sensed j := rfl
@[simp] theorem State.setMoves_presOf (l : List Nat) (j : Nat) : (s.setMoves l).presOf j = s.presOf j := rfl
@[simp] theorem State.setMoves_clock (l : List Nat) (j : Nat) : (s.setMoves l).clock j = s.clock j := rfl
@[simp] theorem State.setMoves_port (l : List Nat) (o : Port) : (s.setMoves l).port o = s.port o := rfl
@[simp] theorem State.setMoves_values (l : List Nat) : (s.setMoves l).values = s.values := rfl
@[simp] theorem State.setMoves_place (l : List Nat) (j : Nat) : (s.setMoves l).place j = s.place j := rfl
@[simp] theorem State.setMoves_isOn (l : List Nat) : (s.setMoves l).isOn = s.isOn := rfl
@[simp] theorem State.setMoves_supplyOk (l : List Nat) : (s.setMoves l).supplyOk = s.supplyOk := rfl

/-! ### setPres -/

@[simp] theorem State.setPres_lots (c : Nat) (p : Pres) : (s.setPres c p).lots = s.lots := rfl
@[simp] theorem State.setPres_accounts (c : Nat) (p : Pres) : (s.setPres c p).accounts = s.accounts := rfl
@[simp] theorem State.setPres_journal (c : Nat) (p : Pres) : (s.setPres c p).journal = s.journal := rfl
@[simp] theorem State.setPres_change (c : Nat) (p : Pres) : (s.setPres c p).change = s.change := rfl
@[simp] theorem State.setPres_yard (c : Nat) (p : Pres) : (s.setPres c p).yard = s.yard := rfl
@[simp] theorem State.setPres_sense (c : Nat) (p : Pres) : (s.setPres c p).sense = s.sense := rfl
@[simp] theorem State.setPres_pres (c : Nat) (p : Pres) : (s.setPres c p).pres = Tab.set Pres.reset s.pres c p := rfl
@[simp] theorem State.setPres_rotation (c : Nat) (p : Pres) : (s.setPres c p).rotation = s.rotation := rfl
@[simp] theorem State.setPres_clocks (c : Nat) (p : Pres) : (s.setPres c p).clocks = s.clocks := rfl
@[simp] theorem State.setPres_fees (c : Nat) (p : Pres) : (s.setPres c p).fees = s.fees := rfl
@[simp] theorem State.setPres_desks (c : Nat) (p : Pres) : (s.setPres c p).desks = s.desks := rfl
@[simp] theorem State.setPres_line (c : Nat) (p : Pres) : (s.setPres c p).line = s.line := rfl
@[simp] theorem State.setPres_ports (c : Nat) (p : Pres) : (s.setPres c p).ports = s.ports := rfl
@[simp] theorem State.setPres_floorTime (c : Nat) (p : Pres) : (s.setPres c p).floorTime = s.floorTime := rfl
@[simp] theorem State.setPres_power (c : Nat) (p : Pres) : (s.setPres c p).power = s.power := rfl
@[simp] theorem State.setPres_pending (c : Nat) (p : Pres) : (s.setPres c p).pending = s.pending := rfl
@[simp] theorem State.setPres_lot (c : Nat) (p : Pres) (j : Nat) : (s.setPres c p).lot j = s.lot j := rfl
@[simp] theorem State.setPres_acct (c : Nat) (p : Pres) (j : Nat) : (s.setPres c p).acct j = s.acct j := rfl
@[simp] theorem State.setPres_desk (c : Nat) (p : Pres) (j : Nat) : (s.setPres c p).desk j = s.desk j := rfl
@[simp] theorem State.setPres_fee (c : Nat) (p : Pres) (j : Nat) : (s.setPres c p).fee j = s.fee j := rfl
@[simp] theorem State.setPres_seg (c : Nat) (p : Pres) (j : Nat) : (s.setPres c p).seg j = s.seg j := rfl
@[simp] theorem State.setPres_train (c : Nat) (p : Pres) (j : Nat) : (s.setPres c p).train j = s.train j := rfl
@[simp] theorem State.setPres_window (c : Nat) (p : Pres) (j : Nat) : (s.setPres c p).window j = s.window j := rfl
@[simp] theorem State.setPres_sensed (c : Nat) (p : Pres) (j : Nat) : (s.setPres c p).sensed j = s.sensed j := rfl
@[simp] theorem State.setPres_clock (c : Nat) (p : Pres) (j : Nat) : (s.setPres c p).clock j = s.clock j := rfl
@[simp] theorem State.setPres_port (c : Nat) (p : Pres) (o : Port) : (s.setPres c p).port o = s.port o := rfl
@[simp] theorem State.setPres_values (c : Nat) (p : Pres) : (s.setPres c p).values = s.values := rfl
@[simp] theorem State.setPres_place (c : Nat) (p : Pres) (j : Nat) : (s.setPres c p).place j = s.place j := rfl
@[simp] theorem State.setPres_isOn (c : Nat) (p : Pres) : (s.setPres c p).isOn = s.isOn := rfl
@[simp] theorem State.setPres_supplyOk (c : Nat) (p : Pres) : (s.setPres c p).supplyOk = s.supplyOk := rfl

/-! ### setClock -/

@[simp] theorem State.setClock_lots (c : Nat) (k : Clock) : (s.setClock c k).lots = s.lots := rfl
@[simp] theorem State.setClock_accounts (c : Nat) (k : Clock) : (s.setClock c k).accounts = s.accounts := rfl
@[simp] theorem State.setClock_journal (c : Nat) (k : Clock) : (s.setClock c k).journal = s.journal := rfl
@[simp] theorem State.setClock_change (c : Nat) (k : Clock) : (s.setClock c k).change = s.change := rfl
@[simp] theorem State.setClock_yard (c : Nat) (k : Clock) : (s.setClock c k).yard = s.yard := rfl
@[simp] theorem State.setClock_sense (c : Nat) (k : Clock) : (s.setClock c k).sense = s.sense := rfl
@[simp] theorem State.setClock_pres (c : Nat) (k : Clock) : (s.setClock c k).pres = s.pres := rfl
@[simp] theorem State.setClock_rotation (c : Nat) (k : Clock) : (s.setClock c k).rotation = s.rotation := rfl
@[simp] theorem State.setClock_clocks (c : Nat) (k : Clock) : (s.setClock c k).clocks = Tab.set Clock.reset s.clocks c k := rfl
@[simp] theorem State.setClock_fees (c : Nat) (k : Clock) : (s.setClock c k).fees = s.fees := rfl
@[simp] theorem State.setClock_desks (c : Nat) (k : Clock) : (s.setClock c k).desks = s.desks := rfl
@[simp] theorem State.setClock_line (c : Nat) (k : Clock) : (s.setClock c k).line = s.line := rfl
@[simp] theorem State.setClock_ports (c : Nat) (k : Clock) : (s.setClock c k).ports = s.ports := rfl
@[simp] theorem State.setClock_floorTime (c : Nat) (k : Clock) : (s.setClock c k).floorTime = s.floorTime := rfl
@[simp] theorem State.setClock_power (c : Nat) (k : Clock) : (s.setClock c k).power = s.power := rfl
@[simp] theorem State.setClock_pending (c : Nat) (k : Clock) : (s.setClock c k).pending = s.pending := rfl
@[simp] theorem State.setClock_lot (c : Nat) (k : Clock) (j : Nat) : (s.setClock c k).lot j = s.lot j := rfl
@[simp] theorem State.setClock_acct (c : Nat) (k : Clock) (j : Nat) : (s.setClock c k).acct j = s.acct j := rfl
@[simp] theorem State.setClock_desk (c : Nat) (k : Clock) (j : Nat) : (s.setClock c k).desk j = s.desk j := rfl
@[simp] theorem State.setClock_fee (c : Nat) (k : Clock) (j : Nat) : (s.setClock c k).fee j = s.fee j := rfl
@[simp] theorem State.setClock_seg (c : Nat) (k : Clock) (j : Nat) : (s.setClock c k).seg j = s.seg j := rfl
@[simp] theorem State.setClock_train (c : Nat) (k : Clock) (j : Nat) : (s.setClock c k).train j = s.train j := rfl
@[simp] theorem State.setClock_window (c : Nat) (k : Clock) (j : Nat) : (s.setClock c k).window j = s.window j := rfl
@[simp] theorem State.setClock_sensed (c : Nat) (k : Clock) (j : Nat) : (s.setClock c k).sensed j = s.sensed j := rfl
@[simp] theorem State.setClock_presOf (c : Nat) (k : Clock) (j : Nat) : (s.setClock c k).presOf j = s.presOf j := rfl
@[simp] theorem State.setClock_port (c : Nat) (k : Clock) (o : Port) : (s.setClock c k).port o = s.port o := rfl
@[simp] theorem State.setClock_values (c : Nat) (k : Clock) : (s.setClock c k).values = s.values := rfl
@[simp] theorem State.setClock_place (c : Nat) (k : Clock) (j : Nat) : (s.setClock c k).place j = s.place j := rfl
@[simp] theorem State.setClock_isOn (c : Nat) (k : Clock) : (s.setClock c k).isOn = s.isOn := rfl
@[simp] theorem State.setClock_supplyOk (c : Nat) (k : Clock) : (s.setClock c k).supplyOk = s.supplyOk := rfl

/-! ### setInbound -/

@[simp] theorem State.setInbound_lots (q : List DeskFrame) : (s.setInbound q).lots = s.lots := rfl
@[simp] theorem State.setInbound_accounts (q : List DeskFrame) : (s.setInbound q).accounts = s.accounts := rfl
@[simp] theorem State.setInbound_journal (q : List DeskFrame) : (s.setInbound q).journal = s.journal := rfl
@[simp] theorem State.setInbound_change (q : List DeskFrame) : (s.setInbound q).change = s.change := rfl
@[simp] theorem State.setInbound_yard (q : List DeskFrame) : (s.setInbound q).yard = s.yard := rfl
@[simp] theorem State.setInbound_sense (q : List DeskFrame) : (s.setInbound q).sense = s.sense := rfl
@[simp] theorem State.setInbound_pres (q : List DeskFrame) : (s.setInbound q).pres = s.pres := rfl
@[simp] theorem State.setInbound_rotation (q : List DeskFrame) : (s.setInbound q).rotation = s.rotation := rfl
@[simp] theorem State.setInbound_clocks (q : List DeskFrame) : (s.setInbound q).clocks = s.clocks := rfl
@[simp] theorem State.setInbound_fees (q : List DeskFrame) : (s.setInbound q).fees = s.fees := rfl
@[simp] theorem State.setInbound_desks (q : List DeskFrame) : (s.setInbound q).desks = s.desks := rfl
@[simp] theorem State.setInbound_line (q : List DeskFrame) : (s.setInbound q).line = { s.line with inbound := q } := rfl
@[simp] theorem State.setInbound_ports (q : List DeskFrame) : (s.setInbound q).ports = s.ports := rfl
@[simp] theorem State.setInbound_floorTime (q : List DeskFrame) : (s.setInbound q).floorTime = s.floorTime := rfl
@[simp] theorem State.setInbound_power (q : List DeskFrame) : (s.setInbound q).power = s.power := rfl
@[simp] theorem State.setInbound_pending (q : List DeskFrame) : (s.setInbound q).pending = s.pending := rfl
@[simp] theorem State.setInbound_lot (q : List DeskFrame) (j : Nat) : (s.setInbound q).lot j = s.lot j := rfl
@[simp] theorem State.setInbound_acct (q : List DeskFrame) (j : Nat) : (s.setInbound q).acct j = s.acct j := rfl
@[simp] theorem State.setInbound_desk (q : List DeskFrame) (j : Nat) : (s.setInbound q).desk j = s.desk j := rfl
@[simp] theorem State.setInbound_fee (q : List DeskFrame) (j : Nat) : (s.setInbound q).fee j = s.fee j := rfl
@[simp] theorem State.setInbound_seg (q : List DeskFrame) (j : Nat) : (s.setInbound q).seg j = s.seg j := rfl
@[simp] theorem State.setInbound_train (q : List DeskFrame) (j : Nat) : (s.setInbound q).train j = s.train j := rfl
@[simp] theorem State.setInbound_window (q : List DeskFrame) (j : Nat) : (s.setInbound q).window j = s.window j := rfl
@[simp] theorem State.setInbound_sensed (q : List DeskFrame) (j : Nat) : (s.setInbound q).sensed j = s.sensed j := rfl
@[simp] theorem State.setInbound_presOf (q : List DeskFrame) (j : Nat) : (s.setInbound q).presOf j = s.presOf j := rfl
@[simp] theorem State.setInbound_clock (q : List DeskFrame) (j : Nat) : (s.setInbound q).clock j = s.clock j := rfl
@[simp] theorem State.setInbound_port (q : List DeskFrame) (o : Port) : (s.setInbound q).port o = s.port o := rfl
@[simp] theorem State.setInbound_values (q : List DeskFrame) : (s.setInbound q).values = s.values := rfl
@[simp] theorem State.setInbound_place (q : List DeskFrame) (j : Nat) : (s.setInbound q).place j = s.place j := rfl
@[simp] theorem State.setInbound_isOn (q : List DeskFrame) : (s.setInbound q).isOn = s.isOn := rfl
@[simp] theorem State.setInbound_supplyOk (q : List DeskFrame) : (s.setInbound q).supplyOk = s.supplyOk := rfl

/-! ### setOutbound -/

@[simp] theorem State.setOutbound_lots (q : List OutPlace) : (s.setOutbound q).lots = s.lots := rfl
@[simp] theorem State.setOutbound_accounts (q : List OutPlace) : (s.setOutbound q).accounts = s.accounts := rfl
@[simp] theorem State.setOutbound_journal (q : List OutPlace) : (s.setOutbound q).journal = s.journal := rfl
@[simp] theorem State.setOutbound_change (q : List OutPlace) : (s.setOutbound q).change = s.change := rfl
@[simp] theorem State.setOutbound_yard (q : List OutPlace) : (s.setOutbound q).yard = s.yard := rfl
@[simp] theorem State.setOutbound_sense (q : List OutPlace) : (s.setOutbound q).sense = s.sense := rfl
@[simp] theorem State.setOutbound_pres (q : List OutPlace) : (s.setOutbound q).pres = s.pres := rfl
@[simp] theorem State.setOutbound_rotation (q : List OutPlace) : (s.setOutbound q).rotation = s.rotation := rfl
@[simp] theorem State.setOutbound_clocks (q : List OutPlace) : (s.setOutbound q).clocks = s.clocks := rfl
@[simp] theorem State.setOutbound_fees (q : List OutPlace) : (s.setOutbound q).fees = s.fees := rfl
@[simp] theorem State.setOutbound_desks (q : List OutPlace) : (s.setOutbound q).desks = s.desks := rfl
@[simp] theorem State.setOutbound_line (q : List OutPlace) : (s.setOutbound q).line = { s.line with outbound := q } := rfl
@[simp] theorem State.setOutbound_ports (q : List OutPlace) : (s.setOutbound q).ports = s.ports := rfl
@[simp] theorem State.setOutbound_floorTime (q : List OutPlace) : (s.setOutbound q).floorTime = s.floorTime := rfl
@[simp] theorem State.setOutbound_power (q : List OutPlace) : (s.setOutbound q).power = s.power := rfl
@[simp] theorem State.setOutbound_pending (q : List OutPlace) : (s.setOutbound q).pending = s.pending := rfl
@[simp] theorem State.setOutbound_lot (q : List OutPlace) (j : Nat) : (s.setOutbound q).lot j = s.lot j := rfl
@[simp] theorem State.setOutbound_acct (q : List OutPlace) (j : Nat) : (s.setOutbound q).acct j = s.acct j := rfl
@[simp] theorem State.setOutbound_desk (q : List OutPlace) (j : Nat) : (s.setOutbound q).desk j = s.desk j := rfl
@[simp] theorem State.setOutbound_fee (q : List OutPlace) (j : Nat) : (s.setOutbound q).fee j = s.fee j := rfl
@[simp] theorem State.setOutbound_seg (q : List OutPlace) (j : Nat) : (s.setOutbound q).seg j = s.seg j := rfl
@[simp] theorem State.setOutbound_train (q : List OutPlace) (j : Nat) : (s.setOutbound q).train j = s.train j := rfl
@[simp] theorem State.setOutbound_window (q : List OutPlace) (j : Nat) : (s.setOutbound q).window j = s.window j := rfl
@[simp] theorem State.setOutbound_sensed (q : List OutPlace) (j : Nat) : (s.setOutbound q).sensed j = s.sensed j := rfl
@[simp] theorem State.setOutbound_presOf (q : List OutPlace) (j : Nat) : (s.setOutbound q).presOf j = s.presOf j := rfl
@[simp] theorem State.setOutbound_clock (q : List OutPlace) (j : Nat) : (s.setOutbound q).clock j = s.clock j := rfl
@[simp] theorem State.setOutbound_port (q : List OutPlace) (o : Port) : (s.setOutbound q).port o = s.port o := rfl
@[simp] theorem State.setOutbound_values (q : List OutPlace) : (s.setOutbound q).values = s.values := rfl
@[simp] theorem State.setOutbound_place (q : List OutPlace) (j : Nat) : (s.setOutbound q).place j = s.place j := rfl
@[simp] theorem State.setOutbound_isOn (q : List OutPlace) : (s.setOutbound q).isOn = s.isOn := rfl
@[simp] theorem State.setOutbound_supplyOk (q : List OutPlace) : (s.setOutbound q).supplyOk = s.supplyOk := rfl

/-! ### setWaits -/

@[simp] theorem State.setWaits_lots (w : List WaitEntry) : (s.setWaits w).lots = s.lots := rfl
@[simp] theorem State.setWaits_accounts (w : List WaitEntry) : (s.setWaits w).accounts = s.accounts := rfl
@[simp] theorem State.setWaits_journal (w : List WaitEntry) : (s.setWaits w).journal = s.journal := rfl
@[simp] theorem State.setWaits_change (w : List WaitEntry) : (s.setWaits w).change = s.change := rfl
@[simp] theorem State.setWaits_yard (w : List WaitEntry) : (s.setWaits w).yard = s.yard := rfl
@[simp] theorem State.setWaits_sense (w : List WaitEntry) : (s.setWaits w).sense = s.sense := rfl
@[simp] theorem State.setWaits_pres (w : List WaitEntry) : (s.setWaits w).pres = s.pres := rfl
@[simp] theorem State.setWaits_rotation (w : List WaitEntry) : (s.setWaits w).rotation = s.rotation := rfl
@[simp] theorem State.setWaits_clocks (w : List WaitEntry) : (s.setWaits w).clocks = s.clocks := rfl
@[simp] theorem State.setWaits_fees (w : List WaitEntry) : (s.setWaits w).fees = s.fees := rfl
@[simp] theorem State.setWaits_desks (w : List WaitEntry) : (s.setWaits w).desks = s.desks := rfl
@[simp] theorem State.setWaits_line (w : List WaitEntry) : (s.setWaits w).line = { s.line with waits := w } := rfl
@[simp] theorem State.setWaits_ports (w : List WaitEntry) : (s.setWaits w).ports = s.ports := rfl
@[simp] theorem State.setWaits_floorTime (w : List WaitEntry) : (s.setWaits w).floorTime = s.floorTime := rfl
@[simp] theorem State.setWaits_power (w : List WaitEntry) : (s.setWaits w).power = s.power := rfl
@[simp] theorem State.setWaits_pending (w : List WaitEntry) : (s.setWaits w).pending = s.pending := rfl
@[simp] theorem State.setWaits_lot (w : List WaitEntry) (j : Nat) : (s.setWaits w).lot j = s.lot j := rfl
@[simp] theorem State.setWaits_acct (w : List WaitEntry) (j : Nat) : (s.setWaits w).acct j = s.acct j := rfl
@[simp] theorem State.setWaits_desk (w : List WaitEntry) (j : Nat) : (s.setWaits w).desk j = s.desk j := rfl
@[simp] theorem State.setWaits_fee (w : List WaitEntry) (j : Nat) : (s.setWaits w).fee j = s.fee j := rfl
@[simp] theorem State.setWaits_seg (w : List WaitEntry) (j : Nat) : (s.setWaits w).seg j = s.seg j := rfl
@[simp] theorem State.setWaits_train (w : List WaitEntry) (j : Nat) : (s.setWaits w).train j = s.train j := rfl
@[simp] theorem State.setWaits_window (w : List WaitEntry) (j : Nat) : (s.setWaits w).window j = s.window j := rfl
@[simp] theorem State.setWaits_sensed (w : List WaitEntry) (j : Nat) : (s.setWaits w).sensed j = s.sensed j := rfl
@[simp] theorem State.setWaits_presOf (w : List WaitEntry) (j : Nat) : (s.setWaits w).presOf j = s.presOf j := rfl
@[simp] theorem State.setWaits_clock (w : List WaitEntry) (j : Nat) : (s.setWaits w).clock j = s.clock j := rfl
@[simp] theorem State.setWaits_port (w : List WaitEntry) (o : Port) : (s.setWaits w).port o = s.port o := rfl
@[simp] theorem State.setWaits_values (w : List WaitEntry) : (s.setWaits w).values = s.values := rfl
@[simp] theorem State.setWaits_place (w : List WaitEntry) (j : Nat) : (s.setWaits w).place j = s.place j := rfl
@[simp] theorem State.setWaits_isOn (w : List WaitEntry) : (s.setWaits w).isOn = s.isOn := rfl
@[simp] theorem State.setWaits_supplyOk (w : List WaitEntry) : (s.setWaits w).supplyOk = s.supplyOk := rfl

/-! ### setSending -/

@[simp] theorem State.setSending_lots (f : Option Sending) : (s.setSending f).lots = s.lots := rfl
@[simp] theorem State.setSending_accounts (f : Option Sending) : (s.setSending f).accounts = s.accounts := rfl
@[simp] theorem State.setSending_journal (f : Option Sending) : (s.setSending f).journal = s.journal := rfl
@[simp] theorem State.setSending_change (f : Option Sending) : (s.setSending f).change = s.change := rfl
@[simp] theorem State.setSending_yard (f : Option Sending) : (s.setSending f).yard = s.yard := rfl
@[simp] theorem State.setSending_sense (f : Option Sending) : (s.setSending f).sense = s.sense := rfl
@[simp] theorem State.setSending_pres (f : Option Sending) : (s.setSending f).pres = s.pres := rfl
@[simp] theorem State.setSending_rotation (f : Option Sending) : (s.setSending f).rotation = s.rotation := rfl
@[simp] theorem State.setSending_clocks (f : Option Sending) : (s.setSending f).clocks = s.clocks := rfl
@[simp] theorem State.setSending_fees (f : Option Sending) : (s.setSending f).fees = s.fees := rfl
@[simp] theorem State.setSending_desks (f : Option Sending) : (s.setSending f).desks = s.desks := rfl
@[simp] theorem State.setSending_line (f : Option Sending) : (s.setSending f).line =
    { s.line with sending := f, ack := false } := rfl
@[simp] theorem State.setSending_ports (f : Option Sending) : (s.setSending f).ports = s.ports := rfl
@[simp] theorem State.setSending_floorTime (f : Option Sending) : (s.setSending f).floorTime = s.floorTime := rfl
@[simp] theorem State.setSending_power (f : Option Sending) : (s.setSending f).power = s.power := rfl
@[simp] theorem State.setSending_pending (f : Option Sending) : (s.setSending f).pending = s.pending := rfl
@[simp] theorem State.setSending_lot (f : Option Sending) (j : Nat) : (s.setSending f).lot j = s.lot j := rfl
@[simp] theorem State.setSending_acct (f : Option Sending) (j : Nat) : (s.setSending f).acct j = s.acct j := rfl
@[simp] theorem State.setSending_desk (f : Option Sending) (j : Nat) : (s.setSending f).desk j = s.desk j := rfl
@[simp] theorem State.setSending_fee (f : Option Sending) (j : Nat) : (s.setSending f).fee j = s.fee j := rfl
@[simp] theorem State.setSending_seg (f : Option Sending) (j : Nat) : (s.setSending f).seg j = s.seg j := rfl
@[simp] theorem State.setSending_train (f : Option Sending) (j : Nat) : (s.setSending f).train j = s.train j := rfl
@[simp] theorem State.setSending_window (f : Option Sending) (j : Nat) : (s.setSending f).window j = s.window j := rfl
@[simp] theorem State.setSending_sensed (f : Option Sending) (j : Nat) : (s.setSending f).sensed j = s.sensed j := rfl
@[simp] theorem State.setSending_presOf (f : Option Sending) (j : Nat) : (s.setSending f).presOf j = s.presOf j := rfl
@[simp] theorem State.setSending_clock (f : Option Sending) (j : Nat) : (s.setSending f).clock j = s.clock j := rfl
@[simp] theorem State.setSending_port (f : Option Sending) (o : Port) : (s.setSending f).port o = s.port o := rfl
@[simp] theorem State.setSending_values (f : Option Sending) : (s.setSending f).values = s.values := rfl
@[simp] theorem State.setSending_place (f : Option Sending) (j : Nat) : (s.setSending f).place j = s.place j := rfl
@[simp] theorem State.setSending_isOn (f : Option Sending) : (s.setSending f).isOn = s.isOn := rfl
@[simp] theorem State.setSending_supplyOk (f : Option Sending) : (s.setSending f).supplyOk = s.supplyOk := rfl

/-! ### setPort -/

@[simp] theorem State.setPort_lots (p : Port) (x : PortCtx) : (s.setPort p x).lots = s.lots := by cases p <;> rfl
@[simp] theorem State.setPort_accounts (p : Port) (x : PortCtx) : (s.setPort p x).accounts = s.accounts := by cases p <;> rfl
@[simp] theorem State.setPort_journal (p : Port) (x : PortCtx) : (s.setPort p x).journal = s.journal := by cases p <;> rfl
@[simp] theorem State.setPort_change (p : Port) (x : PortCtx) : (s.setPort p x).change = s.change := by cases p <;> rfl
@[simp] theorem State.setPort_yard (p : Port) (x : PortCtx) : (s.setPort p x).yard = s.yard := by cases p <;> rfl
@[simp] theorem State.setPort_sense (p : Port) (x : PortCtx) : (s.setPort p x).sense = s.sense := by cases p <;> rfl
@[simp] theorem State.setPort_pres (p : Port) (x : PortCtx) : (s.setPort p x).pres = s.pres := by cases p <;> rfl
@[simp] theorem State.setPort_rotation (p : Port) (x : PortCtx) : (s.setPort p x).rotation = s.rotation := by cases p <;> rfl
@[simp] theorem State.setPort_clocks (p : Port) (x : PortCtx) : (s.setPort p x).clocks = s.clocks := by cases p <;> rfl
@[simp] theorem State.setPort_fees (p : Port) (x : PortCtx) : (s.setPort p x).fees = s.fees := by cases p <;> rfl
@[simp] theorem State.setPort_desks (p : Port) (x : PortCtx) : (s.setPort p x).desks = s.desks := by cases p <;> rfl
@[simp] theorem State.setPort_line (p : Port) (x : PortCtx) : (s.setPort p x).line = s.line := by cases p <;> rfl
@[simp] theorem State.setPort_floorTime (p : Port) (x : PortCtx) : (s.setPort p x).floorTime = s.floorTime := by cases p <;> rfl
@[simp] theorem State.setPort_power (p : Port) (x : PortCtx) : (s.setPort p x).power = s.power := by cases p <;> rfl
@[simp] theorem State.setPort_pending (p : Port) (x : PortCtx) : (s.setPort p x).pending = s.pending := by cases p <;> rfl
@[simp] theorem State.setPort_lot (p : Port) (x : PortCtx) (j : Nat) : (s.setPort p x).lot j = s.lot j := by cases p <;> rfl
@[simp] theorem State.setPort_acct (p : Port) (x : PortCtx) (j : Nat) : (s.setPort p x).acct j = s.acct j := by cases p <;> rfl
@[simp] theorem State.setPort_desk (p : Port) (x : PortCtx) (j : Nat) : (s.setPort p x).desk j = s.desk j := by cases p <;> rfl
@[simp] theorem State.setPort_fee (p : Port) (x : PortCtx) (j : Nat) : (s.setPort p x).fee j = s.fee j := by cases p <;> rfl
@[simp] theorem State.setPort_seg (p : Port) (x : PortCtx) (j : Nat) : (s.setPort p x).seg j = s.seg j := by cases p <;> rfl
@[simp] theorem State.setPort_train (p : Port) (x : PortCtx) (j : Nat) : (s.setPort p x).train j = s.train j := by cases p <;> rfl
@[simp] theorem State.setPort_window (p : Port) (x : PortCtx) (j : Nat) : (s.setPort p x).window j = s.window j := by cases p <;> rfl
@[simp] theorem State.setPort_sensed (p : Port) (x : PortCtx) (j : Nat) : (s.setPort p x).sensed j = s.sensed j := by cases p <;> rfl
@[simp] theorem State.setPort_presOf (p : Port) (x : PortCtx) (j : Nat) : (s.setPort p x).presOf j = s.presOf j := by cases p <;> rfl
@[simp] theorem State.setPort_clock (p : Port) (x : PortCtx) (j : Nat) : (s.setPort p x).clock j = s.clock j := by cases p <;> rfl
@[simp] theorem State.setPort_values (p : Port) (x : PortCtx) : (s.setPort p x).values = s.values := by cases p <;> rfl
@[simp] theorem State.setPort_place (p : Port) (x : PortCtx) (j : Nat) : (s.setPort p x).place j = s.place j := by cases p <;> rfl
@[simp] theorem State.setPort_isOn (p : Port) (x : PortCtx) : (s.setPort p x).isOn = s.isOn := by cases p <;> rfl
@[simp] theorem State.setPort_supplyOk (p : Port) (x : PortCtx) : (s.setPort p x).supplyOk = s.supplyOk := by cases p <;> rfl

/-! ### setValues -/

@[simp] theorem State.setValues_lots (v : JournalValues) : (s.setValues v).lots = s.lots := rfl
@[simp] theorem State.setValues_accounts (v : JournalValues) : (s.setValues v).accounts = s.accounts := rfl
@[simp] theorem State.setValues_change (v : JournalValues) : (s.setValues v).change = s.change := rfl
@[simp] theorem State.setValues_yard (v : JournalValues) : (s.setValues v).yard = s.yard := rfl
@[simp] theorem State.setValues_sense (v : JournalValues) : (s.setValues v).sense = s.sense := rfl
@[simp] theorem State.setValues_pres (v : JournalValues) : (s.setValues v).pres = s.pres := rfl
@[simp] theorem State.setValues_rotation (v : JournalValues) : (s.setValues v).rotation = s.rotation := rfl
@[simp] theorem State.setValues_clocks (v : JournalValues) : (s.setValues v).clocks = s.clocks := rfl
@[simp] theorem State.setValues_fees (v : JournalValues) : (s.setValues v).fees = s.fees := rfl
@[simp] theorem State.setValues_desks (v : JournalValues) : (s.setValues v).desks = s.desks := rfl
@[simp] theorem State.setValues_line (v : JournalValues) : (s.setValues v).line = s.line := rfl
@[simp] theorem State.setValues_ports (v : JournalValues) : (s.setValues v).ports = s.ports := rfl
@[simp] theorem State.setValues_floorTime (v : JournalValues) : (s.setValues v).floorTime = s.floorTime := rfl
@[simp] theorem State.setValues_power (v : JournalValues) : (s.setValues v).power = s.power := rfl
@[simp] theorem State.setValues_pending (v : JournalValues) : (s.setValues v).pending = s.pending := rfl
@[simp] theorem State.setValues_lot (v : JournalValues) (j : Nat) : (s.setValues v).lot j = s.lot j := rfl
@[simp] theorem State.setValues_acct (v : JournalValues) (j : Nat) : (s.setValues v).acct j = s.acct j := rfl
@[simp] theorem State.setValues_desk (v : JournalValues) (j : Nat) : (s.setValues v).desk j = s.desk j := rfl
@[simp] theorem State.setValues_fee (v : JournalValues) (j : Nat) : (s.setValues v).fee j = s.fee j := rfl
@[simp] theorem State.setValues_seg (v : JournalValues) (j : Nat) : (s.setValues v).seg j = s.seg j := rfl
@[simp] theorem State.setValues_train (v : JournalValues) (j : Nat) : (s.setValues v).train j = s.train j := rfl
@[simp] theorem State.setValues_window (v : JournalValues) (j : Nat) : (s.setValues v).window j = s.window j := rfl
@[simp] theorem State.setValues_sensed (v : JournalValues) (j : Nat) : (s.setValues v).sensed j = s.sensed j := rfl
@[simp] theorem State.setValues_presOf (v : JournalValues) (j : Nat) : (s.setValues v).presOf j = s.presOf j := rfl
@[simp] theorem State.setValues_clock (v : JournalValues) (j : Nat) : (s.setValues v).clock j = s.clock j := rfl
@[simp] theorem State.setValues_port (v : JournalValues) (o : Port) : (s.setValues v).port o = s.port o := rfl
@[simp] theorem State.setValues_isOn (v : JournalValues) : (s.setValues v).isOn = s.isOn := rfl
@[simp] theorem State.setValues_supplyOk (v : JournalValues) : (s.setValues v).supplyOk = s.supplyOk := rfl

/-! ### setPlace -/

@[simp] theorem State.setPlace_lots (k : Nat) (e : Option JEntry) : (s.setPlace k e).lots = s.lots := rfl
@[simp] theorem State.setPlace_accounts (k : Nat) (e : Option JEntry) : (s.setPlace k e).accounts = s.accounts := rfl
@[simp] theorem State.setPlace_journal (k : Nat) (e : Option JEntry) : (s.setPlace k e).journal = { s.journal with places := Tab.set none s.journal.places k e } := rfl
@[simp] theorem State.setPlace_change (k : Nat) (e : Option JEntry) : (s.setPlace k e).change = s.change := rfl
@[simp] theorem State.setPlace_yard (k : Nat) (e : Option JEntry) : (s.setPlace k e).yard = s.yard := rfl
@[simp] theorem State.setPlace_sense (k : Nat) (e : Option JEntry) : (s.setPlace k e).sense = s.sense := rfl
@[simp] theorem State.setPlace_pres (k : Nat) (e : Option JEntry) : (s.setPlace k e).pres = s.pres := rfl
@[simp] theorem State.setPlace_rotation (k : Nat) (e : Option JEntry) : (s.setPlace k e).rotation = s.rotation := rfl
@[simp] theorem State.setPlace_clocks (k : Nat) (e : Option JEntry) : (s.setPlace k e).clocks = s.clocks := rfl
@[simp] theorem State.setPlace_fees (k : Nat) (e : Option JEntry) : (s.setPlace k e).fees = s.fees := rfl
@[simp] theorem State.setPlace_desks (k : Nat) (e : Option JEntry) : (s.setPlace k e).desks = s.desks := rfl
@[simp] theorem State.setPlace_line (k : Nat) (e : Option JEntry) : (s.setPlace k e).line = s.line := rfl
@[simp] theorem State.setPlace_ports (k : Nat) (e : Option JEntry) : (s.setPlace k e).ports = s.ports := rfl
@[simp] theorem State.setPlace_floorTime (k : Nat) (e : Option JEntry) : (s.setPlace k e).floorTime = s.floorTime := rfl
@[simp] theorem State.setPlace_power (k : Nat) (e : Option JEntry) : (s.setPlace k e).power = s.power := rfl
@[simp] theorem State.setPlace_pending (k : Nat) (e : Option JEntry) : (s.setPlace k e).pending = s.pending := rfl
@[simp] theorem State.setPlace_lot (k : Nat) (e : Option JEntry) (j : Nat) : (s.setPlace k e).lot j = s.lot j := rfl
@[simp] theorem State.setPlace_acct (k : Nat) (e : Option JEntry) (j : Nat) : (s.setPlace k e).acct j = s.acct j := rfl
@[simp] theorem State.setPlace_desk (k : Nat) (e : Option JEntry) (j : Nat) : (s.setPlace k e).desk j = s.desk j := rfl
@[simp] theorem State.setPlace_fee (k : Nat) (e : Option JEntry) (j : Nat) : (s.setPlace k e).fee j = s.fee j := rfl
@[simp] theorem State.setPlace_seg (k : Nat) (e : Option JEntry) (j : Nat) : (s.setPlace k e).seg j = s.seg j := rfl
@[simp] theorem State.setPlace_train (k : Nat) (e : Option JEntry) (j : Nat) : (s.setPlace k e).train j = s.train j := rfl
@[simp] theorem State.setPlace_window (k : Nat) (e : Option JEntry) (j : Nat) : (s.setPlace k e).window j = s.window j := rfl
@[simp] theorem State.setPlace_sensed (k : Nat) (e : Option JEntry) (j : Nat) : (s.setPlace k e).sensed j = s.sensed j := rfl
@[simp] theorem State.setPlace_presOf (k : Nat) (e : Option JEntry) (j : Nat) : (s.setPlace k e).presOf j = s.presOf j := rfl
@[simp] theorem State.setPlace_clock (k : Nat) (e : Option JEntry) (j : Nat) : (s.setPlace k e).clock j = s.clock j := rfl
@[simp] theorem State.setPlace_port (k : Nat) (e : Option JEntry) (o : Port) : (s.setPlace k e).port o = s.port o := rfl
@[simp] theorem State.setPlace_isOn (k : Nat) (e : Option JEntry) : (s.setPlace k e).isOn = s.isOn := rfl
@[simp] theorem State.setPlace_supplyOk (k : Nat) (e : Option JEntry) : (s.setPlace k e).supplyOk = s.supplyOk := rfl

/-! ### setFlag -/

@[simp] theorem State.setFlag_lots (p : Port) (k : Nat) (f : Flag) : (s.setFlag p k f).lots = s.lots := by cases p <;> rfl
@[simp] theorem State.setFlag_accounts (p : Port) (k : Nat) (f : Flag) : (s.setFlag p k f).accounts = s.accounts := by cases p <;> rfl
@[simp] theorem State.setFlag_journal (p : Port) (k : Nat) (f : Flag) : (s.setFlag p k f).journal = s.journal := by cases p <;> rfl
@[simp] theorem State.setFlag_change (p : Port) (k : Nat) (f : Flag) : (s.setFlag p k f).change = s.change := by cases p <;> rfl
@[simp] theorem State.setFlag_yard (p : Port) (k : Nat) (f : Flag) : (s.setFlag p k f).yard = s.yard := by cases p <;> rfl
@[simp] theorem State.setFlag_sense (p : Port) (k : Nat) (f : Flag) : (s.setFlag p k f).sense = s.sense := by cases p <;> rfl
@[simp] theorem State.setFlag_pres (p : Port) (k : Nat) (f : Flag) : (s.setFlag p k f).pres = s.pres := by cases p <;> rfl
@[simp] theorem State.setFlag_rotation (p : Port) (k : Nat) (f : Flag) : (s.setFlag p k f).rotation = s.rotation := by cases p <;> rfl
@[simp] theorem State.setFlag_clocks (p : Port) (k : Nat) (f : Flag) : (s.setFlag p k f).clocks = s.clocks := by cases p <;> rfl
@[simp] theorem State.setFlag_fees (p : Port) (k : Nat) (f : Flag) : (s.setFlag p k f).fees = s.fees := by cases p <;> rfl
@[simp] theorem State.setFlag_desks (p : Port) (k : Nat) (f : Flag) : (s.setFlag p k f).desks = s.desks := by cases p <;> rfl
@[simp] theorem State.setFlag_line (p : Port) (k : Nat) (f : Flag) : (s.setFlag p k f).line = s.line := by cases p <;> rfl
@[simp] theorem State.setFlag_floorTime (p : Port) (k : Nat) (f : Flag) : (s.setFlag p k f).floorTime = s.floorTime := by cases p <;> rfl
@[simp] theorem State.setFlag_power (p : Port) (k : Nat) (f : Flag) : (s.setFlag p k f).power = s.power := by cases p <;> rfl
@[simp] theorem State.setFlag_pending (p : Port) (k : Nat) (f : Flag) : (s.setFlag p k f).pending = s.pending := by cases p <;> rfl
@[simp] theorem State.setFlag_lot (p : Port) (k : Nat) (f : Flag) (j : Nat) : (s.setFlag p k f).lot j = s.lot j := by cases p <;> rfl
@[simp] theorem State.setFlag_acct (p : Port) (k : Nat) (f : Flag) (j : Nat) : (s.setFlag p k f).acct j = s.acct j := by cases p <;> rfl
@[simp] theorem State.setFlag_desk (p : Port) (k : Nat) (f : Flag) (j : Nat) : (s.setFlag p k f).desk j = s.desk j := by cases p <;> rfl
@[simp] theorem State.setFlag_fee (p : Port) (k : Nat) (f : Flag) (j : Nat) : (s.setFlag p k f).fee j = s.fee j := by cases p <;> rfl
@[simp] theorem State.setFlag_seg (p : Port) (k : Nat) (f : Flag) (j : Nat) : (s.setFlag p k f).seg j = s.seg j := by cases p <;> rfl
@[simp] theorem State.setFlag_train (p : Port) (k : Nat) (f : Flag) (j : Nat) : (s.setFlag p k f).train j = s.train j := by cases p <;> rfl
@[simp] theorem State.setFlag_window (p : Port) (k : Nat) (f : Flag) (j : Nat) : (s.setFlag p k f).window j = s.window j := by cases p <;> rfl
@[simp] theorem State.setFlag_sensed (p : Port) (k : Nat) (f : Flag) (j : Nat) : (s.setFlag p k f).sensed j = s.sensed j := by cases p <;> rfl
@[simp] theorem State.setFlag_presOf (p : Port) (k : Nat) (f : Flag) (j : Nat) : (s.setFlag p k f).presOf j = s.presOf j := by cases p <;> rfl
@[simp] theorem State.setFlag_clock (p : Port) (k : Nat) (f : Flag) (j : Nat) : (s.setFlag p k f).clock j = s.clock j := by cases p <;> rfl
@[simp] theorem State.setFlag_values (p : Port) (k : Nat) (f : Flag) : (s.setFlag p k f).values = s.values := by cases p <;> rfl
@[simp] theorem State.setFlag_place (p : Port) (k : Nat) (f : Flag) (j : Nat) : (s.setFlag p k f).place j = s.place j := by cases p <;> rfl
@[simp] theorem State.setFlag_isOn (p : Port) (k : Nat) (f : Flag) : (s.setFlag p k f).isOn = s.isOn := by cases p <;> rfl
@[simp] theorem State.setFlag_supplyOk (p : Port) (k : Nat) (f : Flag) : (s.setFlag p k f).supplyOk = s.supplyOk := by cases p <;> rfl

/-! ### reads of the same group after a write of another kind -/

@[simp] theorem State.setSeg_train (g : Nat) (x : Segment) (j : Nat) : (s.setSeg g x).train j = s.train j := rfl
@[simp] theorem State.setSeg_window (g : Nat) (x : Segment) (j : Nat) : (s.setSeg g x).window j = s.window j := rfl
@[simp] theorem State.setTrain_seg (t : Nat) (r : Train) (j : Nat) : (s.setTrain t r).seg j = s.seg j := rfl
@[simp] theorem State.setTrain_window (t : Nat) (r : Train) (j : Nat) : (s.setTrain t r).window j = s.window j := rfl
@[simp] theorem State.setWindow_seg (g : Nat) (w : List Launch) (j : Nat) : (s.setWindow g w).seg j = s.seg j := rfl
@[simp] theorem State.setWindow_train (g : Nat) (w : List Launch) (j : Nat) : (s.setWindow g w).train j = s.train j := rfl
@[simp] theorem State.setMoves_seg (l : List Nat) (j : Nat) : (s.setMoves l).seg j = s.seg j := rfl
@[simp] theorem State.setMoves_train (l : List Nat) (j : Nat) : (s.setMoves l).train j = s.train j := rfl
@[simp] theorem State.setMoves_window (l : List Nat) (j : Nat) : (s.setMoves l).window j = s.window j := rfl

@[simp] theorem State.setValues_values (v : JournalValues) : (s.setValues v).values = v := rfl
@[simp] theorem State.setValues_place (v : JournalValues) (j : Nat) : (s.setValues v).place j = s.place j := rfl
@[simp] theorem State.setPlace_values (k : Nat) (e : Option JEntry) : (s.setPlace k e).values = s.values := rfl
@[simp] theorem State.setPort_same (p : Port) (x : PortCtx) : (s.setPort p x).port p = x := by cases p <;> rfl
theorem State.setPort_other (p q : Port) (x : PortCtx) (h : q ≠ p) : (s.setPort p x).port q = s.port q := by
  cases p <;> cases q <;> first | rfl | exact absurd rfl h
@[simp] theorem State.setPort_setPort (p : Port) (x y : PortCtx) : (s.setPort p x).setPort p y = s.setPort p y := by
  cases p <;> rfl

end Sys2Proof.Machine
end

