-- ==== Sys2Proof/Laws/Tab.lean ====
section
/-! SUPPORT. Laws/Tab.lean: the laws of a numbered table: read after write, and the canonical form kept by every
operation. -/

namespace Sys2Proof

variable {α : Type} [DecidableEq α]

/-- The canonical form as a property of lists: no listed record is the default, and the numbers rise strictly. -/
theorem Tab.wf_iff (d : α) (t : Tab α) :
    Tab.wf d t = true ↔ (∀ c ∈ t, c.2 ≠ d) ∧ t.Pairwise (fun a b => a.1 < b.1) := by
  induction t with
  | nil => simp [Tab.wf]
  | cons c t ih =>
    cases t with
    | nil => simp [Tab.wf]
    | cons e t =>
      simp only [Tab.wf, Bool.and_eq_true, decide_eq_true_eq, ih, ne_eq]
      constructor
      · rintro ⟨⟨h1, h2⟩, h3, h4⟩
        refine ⟨by simpa [h1] using h3, List.pairwise_cons.2 ⟨?_, h4⟩⟩
        intro a ha
        rcases List.mem_cons.1 ha with rfl | ha
        · exact h2
        · exact Nat.lt_trans h2 ((List.pairwise_cons.1 h4).1 a ha)
      · rintro ⟨h1, h2⟩
        have h3 := List.pairwise_cons.1 h2
        exact ⟨⟨h1 c (by simp), h3.1 e (by simp)⟩, fun a ha => h1 a (by simp at ha ⊢; tauto), h3.2⟩

omit [DecidableEq α] in
theorem Tab.get_of_forall_ne (d : α) (t : Tab α) (k : Nat) (h : ∀ c ∈ t, c.1 ≠ k) : Tab.get d t k = d := by
  induction t with
  | nil => rfl
  | cons c t ih =>
    have hc : c.1 ≠ k := h c (by simp)
    simp only [Tab.get, hc, if_false]
    exact ih fun a ha => h a (by simp [ha])

omit [DecidableEq α] in
theorem Tab.get_erase_same (d : α) (t : Tab α) (k : Nat) : Tab.get d (Tab.erase t k) k = d := by
  apply Tab.get_of_forall_ne
  intro c hc
  simp [Tab.erase] at hc
  exact hc.2

omit [DecidableEq α] in
theorem Tab.get_erase_other (d : α) (t : Tab α) (k j : Nat) (h : j ≠ k) :
    Tab.get d (Tab.erase t k) j = Tab.get d t j := by
  induction t with
  | nil => rfl
  | cons c t ih =>
    by_cases hc : c.1 = k
    · have hj : c.1 ≠ j := fun e => h (e.symm.trans hc)
      simp only [Tab.erase, List.filter, hc, bne_self_eq_false, Tab.get, hc ▸ hj, if_false]
      exact ih
    · have : (c.1 != k) = true := by simp [hc]
      simp only [Tab.erase, List.filter, this, Tab.get]
      split
      · rfl
      · exact ih

omit [DecidableEq α] in
theorem Tab.get_place_same (d : α) (t : Tab α) (k : Nat) (v : α) (h : ∀ c ∈ t, c.1 ≠ k) :
    Tab.get d (Tab.place t k v) k = v := by
  induction t with
  | nil => simp [Tab.place, Tab.get]
  | cons c t ih =>
    simp only [Tab.place]
    split
    · simp [Tab.get]
    · have hc : c.1 ≠ k := h c (by simp)
      simp only [Tab.get, hc, if_false]
      exact ih fun a ha => h a (by simp [ha])

omit [DecidableEq α] in
theorem Tab.get_place_other (d : α) (t : Tab α) (k j : Nat) (v : α) (h : j ≠ k) :
    Tab.get d (Tab.place t k v) j = Tab.get d t j := by
  induction t with
  | nil => simp [Tab.place, Tab.get, Ne.symm h]
  | cons c t ih =>
    simp only [Tab.place]
    split
    · simp [Tab.get, Ne.symm h]
    · simp only [Tab.get, ih]

/-- A read of the number written gives the record written. -/
@[simp] theorem Tab.get_set_same (d : α) (t : Tab α) (k : Nat) (v : α) : Tab.get d (Tab.set d t k v) k = v := by
  unfold Tab.set
  split
  · next h => rw [Tab.get_erase_same, h]
  · apply Tab.get_place_same
    intro c hc
    simp [Tab.erase] at hc
    exact hc.2

/-- A read of another number gives what it gave before. -/
theorem Tab.get_set_other (d : α) (t : Tab α) (k j : Nat) (v : α) (h : j ≠ k) :
    Tab.get d (Tab.set d t k v) j = Tab.get d t j := by
  unfold Tab.set
  split
  · exact Tab.get_erase_other d t k j h
  · rw [Tab.get_place_other _ _ _ _ _ h, Tab.get_erase_other _ _ _ _ h]

/-- A read after a write, for every number. -/
theorem Tab.get_set (d : α) (t : Tab α) (k j : Nat) (v : α) :
    Tab.get d (Tab.set d t k v) j = if j = k then v else Tab.get d t j := by
  split
  · next h => rw [h, Tab.get_set_same]
  · next h => exact Tab.get_set_other d t k j v h

omit [DecidableEq α] in
theorem Tab.erase_place (t : Tab α) (k : Nat) (v : α) : Tab.erase (Tab.place t k v) k = Tab.erase t k := by
  induction t with
  | nil => simp [Tab.place, Tab.erase]
  | cons c t ih =>
    simp only [Tab.place]
    split
    · simp [Tab.erase]
    · simp only [Tab.erase, List.filter] at ih ⊢
      split <;> simp [ih]

omit [DecidableEq α] in
theorem Tab.erase_erase (t : Tab α) (k : Nat) : Tab.erase (Tab.erase t k) k = Tab.erase t k := by
  simp [Tab.erase]

/-- Of two writes of one number the later stands. -/
@[simp] theorem Tab.set_set (d : α) (t : Tab α) (k : Nat) (v w : α) :
    Tab.set d (Tab.set d t k v) k w = Tab.set d t k w := by
  have h : Tab.erase (Tab.set d t k v) k = Tab.erase t k := by
    unfold Tab.set
    split
    · exact Tab.erase_erase t k
    · rw [Tab.erase_place, Tab.erase_erase]
  show (if w = d then Tab.erase (Tab.set d t k v) k else Tab.place (Tab.erase (Tab.set d t k v) k) k w) = _
  rw [h]
  rfl

/-- A table keeps the form when records are left out. -/
theorem Tab.wf_filter (d : α) (t : Tab α) (p : Nat × α → Bool) (h : Tab.wf d t = true) :
    Tab.wf d (t.filter p) = true := by
  rw [Tab.wf_iff] at h ⊢
  exact ⟨fun c hc => h.1 c (List.mem_filter.1 hc).1, h.2.filter _⟩

omit [DecidableEq α] in
theorem Tab.mem_place (t : Tab α) (k : Nat) (v : α) (c : Nat × α) : c ∈ Tab.place t k v ↔ c = (k, v) ∨ c ∈ t := by
  induction t with
  | nil => simp [Tab.place]
  | cons e t ih =>
    simp only [Tab.place]
    split
    · simp
    · simp only [List.mem_cons, ih]; tauto

theorem Tab.wf_place (d : α) (t : Tab α) (k : Nat) (v : α) (hv : v ≠ d) (h : Tab.wf d t = true)
    (hk : ∀ c ∈ t, c.1 ≠ k) : Tab.wf d (Tab.place t k v) = true := by
  rw [Tab.wf_iff] at h ⊢
  refine ⟨fun c hc => ?_, ?_⟩
  · rcases (Tab.mem_place t k v c).1 hc with rfl | hc
    · exact hv
    · exact h.1 c hc
  · have h2 := h.2
    clear h
    induction t with
    | nil => simp [Tab.place]
    | cons e t ih =>
      have he := List.pairwise_cons.1 h2
      simp only [Tab.place]
      split
      · next hlt =>
        refine List.pairwise_cons.2 ⟨fun a ha => ?_, h2⟩
        rcases List.mem_cons.1 ha with rfl | ha
        · exact hlt
        · exact Nat.lt_trans hlt (he.1 a ha)
      · next hge =>
        refine List.pairwise_cons.2 ⟨fun a ha => ?_, ih (fun c hc => hk c (by simp [hc])) he.2⟩
        rcases (Tab.mem_place t k v a).1 ha with rfl | ha
        · have := hk e (by simp)
          show e.1 < k
          omega
        · exact he.1 a ha

/-- A write keeps the canonical form. -/
theorem Tab.wf_set (d : α) (t : Tab α) (k : Nat) (v : α) (h : Tab.wf d t = true) :
    Tab.wf d (Tab.set d t k v) = true := by
  unfold Tab.set
  have he : Tab.wf d (Tab.erase t k) = true := Tab.wf_filter d t _ h
  split
  · exact he
  · next hv =>
    apply Tab.wf_place d _ k v hv he
    intro c hc
    simp [Tab.erase] at hc
    exact hc.2

/-- A change of every record keeps the canonical form. -/
theorem Tab.wf_mapAll (d : α) (f : Nat → α → α) (t : Tab α) (h : Tab.wf d t = true) :
    Tab.wf d (Tab.mapAll d f t) = true := by
  rw [Tab.wf_iff] at h ⊢
  refine ⟨fun c hc => ?_, ?_⟩
  · simp [Tab.mapAll] at hc; exact hc.2
  · unfold Tab.mapAll
    exact List.Pairwise.filter _ (List.pairwise_map.2 h.2)

/-- A read after a change of every record, where the change leaves what an unlisted number holds as it is. -/
theorem Tab.get_mapAll (d : α) (f : Nat → α → α) (t : Tab α) (j : Nat) (hf : f j d = d) (h : Tab.wf d t = true) :
    Tab.get d (Tab.mapAll d f t) j = f j (Tab.get d t j) := by
  rw [Tab.wf_iff] at h
  replace h := h.2
  induction t with
  | nil => simp [Tab.mapAll, Tab.get, hf]
  | cons c t ih =>
    have hc := List.pairwise_cons.1 h
    have ih := ih hc.2
    simp only [Tab.mapAll, List.map_cons, List.filter] at ih ⊢
    by_cases hj : c.1 = j
    · subst hj
      by_cases hd : f c.1 c.2 = d
      · simp only [hd, Tab.get, ne_eq, not_true_eq_false, decide_false, if_true]
        apply Tab.get_of_forall_ne
        intro a ha
        simp only [List.mem_filter, List.mem_map] at ha
        obtain ⟨⟨b, hb, rfl⟩, -⟩ := ha
        exact Nat.ne_of_gt (hc.1 b hb)
      · simp [hd, Tab.get]
    · by_cases hd : f c.1 c.2 = d
      · simpa [hd, Tab.get, hj] using ih
      · simpa [hd, Tab.get, hj] using ih

end Sys2Proof
end

