-- ==== Sys2Proof/Laws/Ops.lean ====
section
/-! SUPPORT. Laws/Ops.lean: what each shared operation can do, said once: reads after writes, the raising of a notice,
offering a frame, filling and loading, taking a reservation or a command, and booking an account. -/

namespace Sys2Proof.Machine

variable (s : State)

/-! ## A read after a write of the same record -/

@[simp] theorem State.setLot_lot_same (k : Nat) (r : Option LotRec) : (s.setLot k r).lot k = r := by
  simp [State.lot, State.setLot]
theorem State.setLot_lot (k j : Nat) (r : Option LotRec) :
    (s.setLot k r).lot j = if j = k then r else s.lot j := by
  simp only [State.lot, State.setLot, Tab.get_set]; split <;> rfl
@[simp] theorem State.setAcct_acct_same (b : Nat) (a : Account) : (s.setAcct b a).acct b = a := by
  simp [State.acct, State.setAcct]
theorem State.setAcct_acct (b j : Nat) (a : Account) :
    (s.setAcct b a).acct j = if j = b then a else s.acct j := by
  simp only [State.acct, State.setAcct, Tab.get_set]; split <;> rfl
@[simp] theorem State.setDesk_desk_same (d : Nat) (e : Desk) : (s.setDesk d e).desk d = e := by
  simp [State.desk, State.setDesk]
theorem State.setDesk_desk (d j : Nat) (e : Desk) :
    (s.setDesk d e).desk j = if j = d then e else s.desk j := by
  simp only [State.desk, State.setDesk, Tab.get_set]
@[simp] theorem State.setSeg_seg_same (g : Nat) (x : Segment) : (s.setSeg g x).seg g = x := by
  simp [State.seg, State.setSeg]
theorem State.setSeg_seg (g j : Nat) (x : Segment) :
    (s.setSeg g x).seg j = if j = g then x else s.seg j := by
  simp only [State.seg, State.setSeg, Tab.get_set]
@[simp] theorem State.setTrain_train_same (t : Nat) (r : Train) : (s.setTrain t r).train t = r := by
  simp [State.train, State.setTrain]
theorem State.setTrain_train (t j : Nat) (r : Train) :
    (s.setTrain t r).train j = if j = t then r else s.train j := by
  simp only [State.train, State.setTrain, Tab.get_set]
@[simp] theorem State.setWindow_window_same (g : Nat) (w : List Launch) : (s.setWindow g w).window g = w := by
  simp [State.window, State.setWindow]
theorem State.setWindow_window (g j : Nat) (w : List Launch) :
    (s.setWindow g w).window j = if j = g then w else s.window j := by
  simp only [State.window, State.setWindow, Tab.get_set]
@[simp] theorem State.setPres_presOf_same (c : Nat) (p : Pres) : (s.setPres c p).presOf c = p := by
  simp [State.presOf, State.setPres]
theorem State.setPres_presOf (c j : Nat) (p : Pres) :
    (s.setPres c p).presOf j = if j = c then p else s.presOf j := by
  simp only [State.presOf, State.setPres, Tab.get_set]
@[simp] theorem State.setClock_clock_same (c : Nat) (k : Clock) : (s.setClock c k).clock c = k := by
  simp [State.clock, State.setClock]
theorem State.setClock_clock (c j : Nat) (k : Clock) :
    (s.setClock c k).clock j = if j = c then k else s.clock j := by
  simp only [State.clock, State.setClock, Tab.get_set]
@[simp] theorem State.setPlace_place_same (k : Nat) (e : Option JEntry) : (s.setPlace k e).place k = e := by
  simp [State.place, State.setPlace]
theorem State.setPlace_place (k j : Nat) (e : Option JEntry) :
    (s.setPlace k e).place j = if j = k then e else s.place j := by
  simp only [State.place, State.setPlace, Tab.get_set]

/-! ## Of two writes of one record the later stands -/

@[simp] theorem State.setLot_setLot (k : Nat) (r q : Option LotRec) : (s.setLot k r).setLot k q = s.setLot k q := by
  simp [State.setLot]
@[simp] theorem State.setAcct_setAcct (b : Nat) (a z : Account) : (s.setAcct b a).setAcct b z = s.setAcct b z := by
  simp [State.setAcct]
@[simp] theorem State.setDesk_setDesk (d : Nat) (e f : Desk) : (s.setDesk d e).setDesk d f = s.setDesk d f := by
  simp [State.setDesk]
@[simp] theorem State.setSeg_setSeg (g : Nat) (x y : Segment) : (s.setSeg g x).setSeg g y = s.setSeg g y := by
  simp [State.setSeg]
@[simp] theorem State.setTrain_setTrain (t : Nat) (r q : Train) : (s.setTrain t r).setTrain t q = s.setTrain t q := by
  simp [State.setTrain]
@[simp] theorem State.setPres_setPres (c : Nat) (p q : Pres) : (s.setPres c p).setPres c q = s.setPres c q := by
  simp [State.setPres]
@[simp] theorem State.setClock_setClock (c : Nat) (k j : Clock) : (s.setClock c k).setClock c j = s.setClock c j := by
  simp [State.setClock]

/-! ## Notices (R188) -/

/-- A class that the port has is raised: pending, with its detail, and with the again mark when it was pending. -/
theorem State.raise_eq (p : Port) (n : Notice) (d : Detail) (h : n.priority p ≠ 0) :
    s.raise p n d =
      s.setFlag p (n.priority p) { pending := true, again := (s.flag p (n.priority p)).pending, detail := d } := by
  simp [State.raise, h]

/-- Raising a notice changes the ports alone. -/
theorem State.raise_ports (p : Port) (n : Notice) (d : Detail) :
    ∃ x, s.raise p n d = { s with ports := x } ∧
      ∀ q, ∃ f, ({ s with ports := x } : State).port q = { s.port q with flags := f } := by
  unfold State.raise
  by_cases h : n.priority p = 0
  · exact ⟨s.ports, by simp [h], fun q => ⟨(s.port q).flags, by cases q <;> rfl⟩⟩
  · simp only [h, if_false]
    cases p <;>
      exact ⟨_, rfl, fun q => by cases q <;> exact ⟨_, rfl⟩⟩

/-- The flag written reads back, and every other flag reads as it did. -/
theorem State.setFlag_flag (p q : Port) (k j : Nat) (f : Flag) :
    (s.setFlag p k f).flag q j = if q = p ∧ j = k then f else s.flag q j := by
  unfold State.flag State.setFlag
  by_cases h : q = p
  · subst h
    simp only [State.setPort_same, Tab.get_set, true_and]
  · simp [State.setPort_other _ _ _ _ h, h]

/-! ## Offering a frame (R172) -/

/-- With a free place a frame joins the queue. -/
theorem State.offer_of_room (f : OutFrame) (h : s.line.outbound.length < 16) :
    s.offer f = some (s.setOutbound (joinQueue f s.line.outbound)) := by
  simp [State.offer, Config.outboundSize, h]

/-- What an offer can do: the frame joins in a free place, or takes the place of a displaced ANNOUNCE. -/
theorem State.offer_cases {f : OutFrame} {t : State} (h : s.offer f = some t) :
    (s.line.outbound.length < 16 ∧ t = s.setOutbound (joinQueue f s.line.outbound)) ∨
    ∃ c k q, f.displaces = true ∧ displaceFrom s.headOnLine s.line.outbound = some (c, k, q) ∧
      t = (s.setOutbound (joinQueue f q)).displaced c k := by
  unfold State.offer at h
  split at h
  · next hl => exact .inl ⟨hl, (Option.some.inj h).symm⟩
  · unfold State.displaceFor at h
    split at h
    · next hd =>
      split at h
      · cases h
      · next c k q hq => exact .inr ⟨c, k, q, hd, hq, (Option.some.inj h).symm⟩
    · cases h

/-- A broadcast joins at the tail (R171). -/
theorem joinQueue_broadcast (f : OutFrame) (q : List OutPlace) (h : f.isReply = false) :
    joinQueue f q = q ++ [{ frame := f, sent := 0 }] := by simp [joinQueue, h]

theorem insertReply_length (p : OutPlace) (q : List OutPlace) : (insertReply p q).length = q.length + 1 := by
  induction q with
  | nil => rfl
  | cons h t ih => simp only [insertReply]; split <;> simp [ih]

/-- A frame that joins takes one place. -/
theorem joinQueue_length (f : OutFrame) (q : List OutPlace) : (joinQueue f q).length = q.length + 1 := by
  cases q with
  | nil => simp [joinQueue]
  | cons h t =>
    simp only [joinQueue]
    split
    · split
      · rw [insertReply_length]
      · simp [insertReply_length]
    · simp

/-- A displaced ANNOUNCE frees one place. -/
theorem dropAnnounce_length {q r : List OutPlace} {c k : Nat} (h : dropAnnounce q = some (c, k, r)) :
    r.length + 1 = q.length := by
  induction q generalizing r with
  | nil => simp [dropAnnounce] at h
  | cons a t ih =>
    cases hf : a.frame <;> simp only [dropAnnounce, hf, Option.map_eq_some_iff] at h
    case announce => simp at h; simp [h.2.2]
    all_goals
      obtain ⟨⟨c', k', r'⟩, h1, h2⟩ := h
      simp at h2
      obtain ⟨rfl, rfl, rfl⟩ := h2
      simp [ih h1]

/-- A displaced lot changes announce records alone. -/
theorem State.displaced_line (c k : Nat) : (s.displaced c k).line = s.line := by
  unfold State.displaced
  split
  · rfl
  · simp only []
    split
    · rfl
    · split <;> rfl

/-- With a free place the HALT frame of a clock that stands at a position joins the queue (R77). -/
theorem State.offerHalt_of_room (c n : Nat) (r : HaltReason) (h : s.line.outbound.length < 16)
    (hp : (s.clock c).position = some n) : s.offerHalt c r = some (s.haltSent c r n) := by
  simp [State.offerHalt, hp, State.offer_of_room _ _ h, State.haltSent, State.haltFrame, priceAt, joinQueue, OutFrame.isReply]

/-- With no free place and no ANNOUNCE to displace no frame is placed (R172). -/
theorem State.offer_of_noPlace (f : OutFrame) (h : s.NoPlace) : s.offer f = none := by
  have hl := h.full
  have hk := h.kept
  unfold State.offer State.displaceFor Config.outboundSize
  rw [if_neg (by omega)]
  simp [hk]

/-- The oldest ANNOUNCE of a queue, head by head. -/
theorem dropAnnounce_cons (h : OutPlace) (t : List OutPlace) :
    dropAnnounce (h :: t) =
      match h.frame.announces with
      | some (c, l) => some (c, l, t)
      | none => (dropAnnounce t).map fun (c, l, q) => (c, l, h :: q) := by
  cases hf : h.frame <;> simp [dropAnnounce, hf, OutFrame.announces]

/-- The oldest ANNOUNCE of a queue is the one that no ANNOUNCE precedes (R172). -/
theorem dropAnnounce_append {before behind : List OutPlace} {x : OutPlace} {c l : Nat}
    (hx : x.frame.announces = some (c, l)) (hb : ∀ y ∈ before, y.frame.announces = none) :
    dropAnnounce (before ++ x :: behind) = some (c, l, before ++ behind) := by
  induction before with
  | nil => simp [dropAnnounce_cons, hx]
  | cons a t ih =>
    have ha := hb a (by simp)
    simp [dropAnnounce_cons, ha, ih fun y hy => hb y (by simp [hy])]

/-- A queue holds no ANNOUNCE, or an oldest one. -/
theorem dropAnnounce_cases (q : List OutPlace) :
    dropAnnounce q = none ∧ (∀ y ∈ q, y.frame.announces = none) ∨
    ∃ before x behind c l, q = before ++ x :: behind ∧ x.frame.announces = some (c, l) ∧
      (∀ y ∈ before, y.frame.announces = none) := by
  induction q with
  | nil => exact .inl ⟨rfl, nofun⟩
  | cons a t ih =>
    cases ha : a.frame.announces with
    | some y => exact .inr ⟨[], a, t, y.1, y.2, rfl, ha, nofun⟩
    | none =>
      obtain ⟨h1, h2⟩ | ⟨before, x, behind, c, l, rfl, hx, hb⟩ := ih
      · exact .inl ⟨by simp [dropAnnounce_cons, ha, h1], by simpa [ha] using h2⟩
      · exact .inr ⟨a :: before, x, behind, c, l, rfl, hx, by simpa [ha] using hb⟩

/-- A HALT or SALE that has been placed is what its offer makes (R172). -/
theorem State.offer_of_placed {f : OutFrame} {v : State} (h : s.Placed f v) (hf : f.displaces = true)
    (hr : f.isReply = false) : s.offer f = some v := by
  obtain ⟨hl, rfl⟩ | ⟨hl, before, x, behind, c, l, hq, hx, hne, hb, rfl⟩ := h
  · rw [s.offer_of_room f hl, joinQueue_broadcast _ _ hr]
  · have hd : displaceFrom s.headOnLine s.line.outbound = some (c, l, before ++ behind) := by
      rw [hq]
      cases hh : s.headOnLine with
      | false => simpa [displaceFrom] using dropAnnounce_append hx (by simpa [hh] using hb)
      | true =>
        cases before with
        | nil => exact absurd rfl (hne hh)
        | cons a t => simp [displaceFrom, dropAnnounce_append hx (by simpa [hh] using hb)]
    simp [State.offer, Config.outboundSize, Nat.not_lt.mpr hl, State.displaceFor, hf, hd, joinQueue_broadcast _ _ hr]

/-- A HALT that has been placed is what its offer makes (R77). -/
theorem State.offerHalt_of_placed {c n : Nat} {r : HaltReason} {v : State} (h : s.HaltPlaced c r n v)
    (hp : (s.clock c).position = some n) : s.offerHalt c r = some v := by
  have := s.offer_of_placed h rfl rfl
  simpa [State.offerHalt, hp, State.haltFrame, priceAt] using this

/-- A frame is placed, or there is no place for one (R172). -/
theorem State.placed_or_noPlace (f : OutFrame) : (∃ v, s.Placed f v) ∨ s.NoPlace := by
  by_cases hl : s.line.outbound.length < 16
  · exact .inl ⟨_, .inl ⟨hl, rfl⟩⟩
  have hl : 16 ≤ s.line.outbound.length := by omega
  cases hh : s.headOnLine with
  | false =>
    obtain ⟨h, -⟩ | ⟨before, x, behind, c, l, hq, hx, hb⟩ := dropAnnounce_cases s.line.outbound
    · exact .inr ⟨hl, by simp [displaceFrom, hh, h]⟩
    · exact .inl ⟨_, .inr ⟨hl, before, x, behind, c, l, hq, hx, by simp [hh], by simpa [hh] using hb, rfl⟩⟩
  | true =>
    cases hq : s.line.outbound with
    | nil => simp [hq] at hl
    | cons a t =>
      obtain ⟨h, -⟩ | ⟨before, x, behind, c, l, ht, hx, hb⟩ := dropAnnounce_cases t
      · exact .inr ⟨hl, by simp [displaceFrom, hh, hq, h]⟩
      · exact .inl ⟨_, .inr ⟨hl, a :: before, x, behind, c, l, by simp [hq, ht], hx, by simp, by simpa [hh] using hb,
          rfl⟩⟩

/-- A frame that displaces nothing is not placed in a full queue (R172). -/
theorem State.offer_of_full (f : OutFrame) (h : 16 ≤ s.line.outbound.length) (hf : f.displaces = false) :
    s.offer f = none := by
  unfold State.offer State.displaceFor Config.outboundSize
  rw [if_neg (by omega), if_neg (by simp [hf])]

/-- A clock that does not wait joins the wait list behind the others (R173). -/
theorem State.joinWait_of_notWaiting (c : Nat) (k : WaitKind) (h : s.NotWaiting c) :
    s.joinWait (.clock c) k = s.setWaits (s.line.waits ++ [{ who := .clock c, kind := k }]) := by
  unfold State.joinWait
  rw [if_neg]
  simp only [List.any_eq_true, beq_iff_eq, not_exists, not_and]
  exact h

/-! ## Filling and loading (R48, R52) -/

/-- A change of a lot changes the lot table alone. -/
theorem State.updLot_frame (k : Nat) (f : LotRec → LotRec) : ∃ x, s.updLot k f = { s with lots := x } := by
  unfold State.updLot
  split
  · exact ⟨s.lots, rfl⟩
  · exact ⟨_, rfl⟩

theorem State.fillUpTo_frame (n c : Nat) (u : State) :
    ∃ x y, State.fillUpTo n c u = { u with lots := x, pres := y } := by
  induction n generalizing u with
  | zero => exact ⟨u.lots, u.pres, rfl⟩
  | succ n ih =>
    unfold State.fillUpTo
    dsimp only
    split
    · exact ⟨u.lots, u.pres, rfl⟩
    · split
      · split
        · exact ⟨u.lots, u.pres, rfl⟩
        · next k _ =>
          obtain ⟨x, hx⟩ := u.updLot_frame k fun r => { r with state := .queued, clock := some c }
          obtain ⟨y, z, h⟩ := ih ((u.lotJoins k c).setPres c
            { u.presOf c with queue := (u.presOf c).queue ++ [{ lot := k, origin := .train, announce := none }] })
          refine ⟨y, z, h.trans ?_⟩
          unfold State.lotJoins
          rw [hx]; rfl
      · exact ⟨u.lots, u.pres, rfl⟩

/-- The fill changes lots and the presentation unit alone. -/
theorem State.fill_frame (c : Nat) : ∃ x y, s.fill c = { s with lots := x, pres := y } := State.fillUpTo_frame _ _ _

/-- A load: the head leaves the queue and is the current lot, with its announce record, and the queue is filled. -/
theorem State.load_eq (c : Nat) (e : QEntry) (rest : List QEntry) (r : LotRec) (h : (s.presOf c).queue = e :: rest)
    (hr : s.lot e.lot = some r) :
    s.load c =
      (((s.setPres c { s.presOf c with queue := rest, current := e.announce, unrun := true, ready := none }).setLot e.lot
        (some { r with state := .onClock })).setClock c { s.clock c with state := .loaded, lot := some e.lot }).fill c := by
  simp [State.load, h, hr, State.setLotState, State.updLot]

/-! ## Reservations (R151, R153) -/

/-- A clock that holds none takes a reservation; JOURNAL_LOW is given when used plus reserved is then 7,936 or more. -/
theorem State.takeReservation_eq (c : Nat) (h : (s.clock c).reserved = false) :
    s.takeReservation c =
      let u := (s.setValues { s.values with reserved := s.values.reserved + 1 }).setClock c
        { s.clock c with reserved := true }
      let n := s.values.used + (s.values.reserved + 1)
      if 7936 ≤ n then
        (u.raise .fin .journalLow (.number (8192 - n))).raise .auc .journalLow (.number (8192 - n))
      else u := by
  unfold State.takeReservation State.judgeLow
  dsimp only
  rw [if_neg (by simp [h])]
  rfl

/-! ## Taking a command (R182, R186) -/

theorem State.abortTransfer_idle (p : Port) (h : (s.port p).xfer = none) : s.abortTransfer p = s := by
  simp [State.abortTransfer, h]

/-- On a port with no open transfer, a command of its role is its block's answer and the reply. -/
theorem State.command_ready {p : Port} {role : Option Port} (h : s.Ready p) (hr : roleAllows role p = true) (t : Nat)
    (block : State → Answer) : s.command p t role block = (block s).reply p t := by
  simp [State.command, h.on, s.abortTransfer_idle p h.idle, hr]

/-- A command of another role is refused. -/
theorem State.command_refused {p : Port} {role : Option Port} (h : s.Ready p) (hr : roleAllows role p = false) (t : Nat)
    (block : State → Answer) : s.command p t role block = s.putReply p t .notPermitted [] := by
  simp [State.command, h.on, s.abortTransfer_idle p h.idle, hr]

/-- A part that is halted or starting takes no command. -/
theorem State.command_off (p : Port) (role : Option Port) (h : s.isOn = false) (t : Nat) (block : State → Answer) :
    s.command p t role block = s := by
  simp [State.command, h]

/-- What taking a command can do. -/
theorem State.command_cases (p : Port) (role : Option Port) (t : Nat) (block : State → Answer) :
    (s.isOn = false ∧ s.command p t role block = s) ∨
    (s.isOn = true ∧ roleAllows role p = true ∧
      s.command p t role block = (block (s.abortTransfer p)).reply p t) ∨
    (s.isOn = true ∧ roleAllows role p = false ∧
      s.command p t role block = (s.abortTransfer p).putReply p t .notPermitted []) := by
  unfold State.command
  cases s.isOn <;> cases hr : roleAllows role p <;> simp

/-! ## Booking an account (R121, R130) -/

/-- A change that is not saturated and may not set OVER stores the account with OVER cleared when it may be. -/
theorem State.book_quiet (b : Nat) (a : Account) (mayClear : Bool) :
    s.book b a false false mayClear =
      s.setAcct b
        { a with isOver :=
            if mayClear && !decide (a.limit < exposureExact a) && !a.saturated then false else a.isOver } := by
  simp [State.book]

/-- A change that is saturated sets the mark and OVER, and is told. -/
theorem State.book_saturated (b : Nat) (a : Account) (maySet mayClear : Bool) :
    s.book b a true maySet mayClear = (s.setAcct b { a with saturated := true, isOver := true }).raiseOver b := by
  simp [State.book]

/-- A hold that is not saturated raises the held amount and nothing else (R136). -/
theorem State.placeHold_eq (b hold : Nat) (h0 : 0 ≤ (s.acct b).heldAmt)
    (h : (s.acct b).heldAmt + hold ≤ Config.amountLimit) :
    s.placeHold b hold = s.setAcct b { s.acct b with heldAmt := (s.acct b).heldAmt + hold } := by
  have h1 : overflows ((s.acct b).heldAmt + hold) = false := by
    unfold overflows
    rw [Bool.or_eq_false_iff]
    exact ⟨decide_eq_false (by simp only [Config.amountLimit] at h ⊢; omega),
      decide_eq_false (by simp only [Config.amountLimit] at h ⊢; omega)⟩
  have h2 : saturate ((s.acct b).heldAmt + hold) = (s.acct b).heldAmt + hold := by
    have h3 : -Config.amountLimit ≤ (s.acct b).heldAmt + hold := by simp only [Config.amountLimit]; omega
    rw [saturate, clampInt, min_eq_right h, max_eq_right h3]
  simp [State.placeHold, h1, h2, State.book_quiet]

end Sys2Proof.Machine
end

