-- ==== Sys2Proof/Laws/PerInstr.lean ====
section
/-! SUPPORT. Laws/PerInstr.lean: for each command, that its frame (R196) and its role (R182) agree with each other. -/

namespace Sys2Proof.Laws

/-- The role that R196 groups a command code under; none for the codes of every port. -/
def roleOfCode (code : Nat) : Option Port :=
  if code < 0x20 then some .sup else if code < 0x30 then some .auc else if code < 0x40 then some .yrd
  else if code < 0x50 then some .fin else none

/-- A command that has a frame carries the frame's tag, its role is the one its code stands under, and the code, the tag
and the length of the fields fit their bytes when its operands fit their layout (R196). A command without a frame is not
of one role. -/
def Framed.Statement (c : Instr) : Prop :=
  (∀ code t fs, frameFields c = some (code, t, fs) →
    (∃ p, c.given = some (p, t)) ∧ c.role = roleOfCode code ∧ code < 256 ∧
    (c.wellFormed = true → t < 256 ∧ fs.length < 256)) ∧
  (frameFields c = none → c.role = none)

theorem natBytes_length (k n : Nat) : (natBytes k n).length = k := by
  induction k generalizing n with
  | zero => rfl
  | succ k ih => simp [natBytes, ih]

@[simp] theorem u1_length (n : Nat) : (u1 n).length = 1 := natBytes_length 1 n
@[simp] theorem u2_length (n : Nat) : (u2 n).length = 2 := natBytes_length 2 n
@[simp] theorem u3_length (n : Nat) : (u3 n).length = 3 := natBytes_length 3 n
@[simp] theorem u4_length (n : Nat) : (u4 n).length = 4 := natBytes_length 4 n
@[simp] theorem u6_length (n : Nat) : (u6 n).length = 6 := natBytes_length 6 n
@[simp] theorem s6_length (x : Int) : (s6 x).length = 6 := natBytes_length 6 _
@[simp] theorem onByte_length (b : Bool) : (onByte b).length = 1 := u1_length _

@[simp] theorem opt0_length (k : Nat) (x : Option Nat) : (opt0 k x).length = k := by
  cases x <;> exact natBytes_length k _

@[simp] theorem optF_length (k : Nat) (x : Option Nat) : (optF k x).length = k := by
  cases x <;> simp [optF, natBytes_length]

theorem numbers_length (l : List Nat) : (listBytes (l.map u2)).length = 1 + 2 * l.length := by
  induction l with
  | nil => rfl
  | cons a l ih => simp [listBytes] at ih ⊢; omega

@[simp] theorem lot_length (r : LotFields) : r.bytes.length = 18 := by
  simp [LotFields.bytes]

@[simp] theorem succ_length (l : List Nat) : (succBytes l).length = 6 := by
  rcases l with _ | ⟨a, _ | ⟨b, _ | ⟨c, l⟩⟩⟩ <;> simp [succBytes]

@[simp] theorem segment_length (r : SegFields) : r.bytes.length = 13 := by
  simp [SegFields.bytes]

theorem account_length (r : AccountFields) : r.bytes.length ≤ 24 := by
  cases h : r.amounts <;> simp [AccountFields.bytes, h]

@[simp] theorem settings_length (r : Settings) : r.bytes.length = 24 := by
  simp [Settings.bytes]

/-- The three numbers of a frame, read off the equation that gives it. -/
theorem framed_of_frame {c : Instr} {p : Port} {code t : Nat} {fs : List Byte}
    (h : frameFields c = some (code, t, fs)) (hg : c.given = some (p, t)) (hr : c.role = roleOfCode code)
    (hc : code < 256) (hw : c.wellFormed = true → t < 256 ∧ fs.length < 256) : Framed.Statement c := by
  refine ⟨fun code' t' fs' h' => ?_, fun h' => by simp [h] at h'⟩
  rw [h] at h'
  injection h' with h'
  injection h' with h1 h2
  injection h2 with h2 h3
  subst h1; subst h2; subst h3
  exact ⟨⟨p, hg⟩, hr, hc, hw⟩

/-- A command with no frame and no role. -/
theorem framed_of_none {c : Instr} (h : frameFields c = none) (hr : c.role = none) : Framed.Statement c :=
  ⟨fun code t fs h' => by simp [h] at h', fun _ => hr⟩

theorem Framed.lotWrite (p : Port) (t : Nat) (count : Nat) (r : LotFields)
    : Framed.Statement (.lotWrite p t count r) :=
  framed_of_frame rfl rfl rfl (by decide) (by
    simp_all [Instr.wellFormed, fits1])
theorem Framed.lotWithdraw (p : Port) (t : Nat) (slot : Nat) : Framed.Statement (.lotWithdraw p t slot) :=
  framed_of_frame rfl rfl rfl (by decide) (by
    simp_all [Instr.wellFormed, fits1])
theorem Framed.lotRelease (p : Port) (t : Nat) (slot : Nat) : Framed.Statement (.lotRelease p t slot) :=
  framed_of_frame rfl rfl rfl (by decide) (by
    simp_all [Instr.wellFormed, fits1])
theorem Framed.layoutWrite (p : Port) (t : Nat) (window : Nat) (transit : Nat) (count : Nat)
    : Framed.Statement (.layoutWrite p t window transit count) :=
  framed_of_frame rfl rfl rfl (by decide) (by
    simp_all [Instr.wellFormed, fits1])
theorem Framed.segmentClear (p : Port) (t : Nat) (segment : Nat) : Framed.Statement (.segmentClear p t segment) :=
  framed_of_frame rfl rfl rfl (by decide) (by
    simp_all [Instr.wellFormed, fits1])
theorem Framed.accountWrite (p : Port) (t : Nat) (buyer : Nat) (r : AccountFields)
    : Framed.Statement (.accountWrite p t buyer r) :=
  framed_of_frame rfl rfl rfl (by decide) (by
    have := account_length r
    simp_all [Instr.wellFormed, fits1]; omega)
theorem Framed.feeClassWrite (p : Port) (t : Nat) (fclass : Nat) (stemFee : Nat) (percentage : Nat) (minimum : Nat)
    : Framed.Statement (.feeClassWrite p t fclass stemFee percentage minimum) :=
  framed_of_frame rfl rfl rfl (by decide) (by
    simp_all [Instr.wellFormed, fits1])
theorem Framed.deskUnbind (p : Port) (t : Nat) (desk : Nat) : Framed.Statement (.deskUnbind p t desk) :=
  framed_of_frame rfl rfl rfl (by decide) (by
    simp_all [Instr.wellFormed, fits1])
theorem Framed.journalFormat (p : Port) (t : Nat) : Framed.Statement (.journalFormat p t) :=
  framed_of_frame rfl rfl rfl (by decide) (by
    simp_all [Instr.wellFormed, fits1])
theorem Framed.timeSet (p : Port) (t : Nat) (value : Nat) : Framed.Statement (.timeSet p t value) :=
  framed_of_frame rfl rfl rfl (by decide) (by
    simp_all [Instr.wellFormed, fits1])
theorem Framed.floorReset (p : Port) (t : Nat) : Framed.Statement (.floorReset p t) :=
  framed_of_frame rfl rfl rfl (by decide) (by
    simp_all [Instr.wellFormed, fits1])
theorem Framed.clockSet (p : Port) (t : Nat) (c : Nat) (r : Settings) : Framed.Statement (.clockSet p t c r) :=
  framed_of_frame rfl rfl rfl (by decide) (by
    simp_all [Instr.wellFormed, fits1])
theorem Framed.clockMode (p : Port) (t : Nat) (c : Nat) (on : Bool) : Framed.Statement (.clockMode p t c on) :=
  framed_of_frame rfl rfl rfl (by decide) (by
    simp_all [Instr.wellFormed, fits1])
theorem Framed.clockLoad (p : Port) (t : Nat) (c : Nat) : Framed.Statement (.clockLoad p t c) :=
  framed_of_frame rfl rfl rfl (by decide) (by
    simp_all [Instr.wellFormed, fits1])
theorem Framed.clockStart (p : Port) (t : Nat) (c : Nat) : Framed.Statement (.clockStart p t c) :=
  framed_of_frame rfl rfl rfl (by decide) (by
    simp_all [Instr.wellFormed, fits1])
theorem Framed.clockPause (p : Port) (t : Nat) (c : Nat) : Framed.Statement (.clockPause p t c) :=
  framed_of_frame rfl rfl rfl (by decide) (by
    simp_all [Instr.wellFormed, fits1])
theorem Framed.clockResume (p : Port) (t : Nat) (c : Nat) : Framed.Statement (.clockResume p t c) :=
  framed_of_frame rfl rfl rfl (by decide) (by
    simp_all [Instr.wellFormed, fits1])
theorem Framed.clockSkip (p : Port) (t : Nat) (c : Nat) : Framed.Statement (.clockSkip p t c) :=
  framed_of_frame rfl rfl rfl (by decide) (by
    simp_all [Instr.wellFormed, fits1])
theorem Framed.voidLast (p : Port) (t : Nat) (c : Nat) : Framed.Statement (.voidLast p t c) :=
  framed_of_frame rfl rfl rfl (by decide) (by
    simp_all [Instr.wellFormed, fits1])
theorem Framed.rehearsalRun (p : Port) (t : Nat) (c : Nat) : Framed.Statement (.rehearsalRun p t c) :=
  framed_of_frame rfl rfl rfl (by decide) (by
    simp_all [Instr.wellFormed, fits1])
theorem Framed.rehearsalClear (p : Port) (t : Nat) (c : Nat) : Framed.Statement (.rehearsalClear p t c) :=
  framed_of_frame rfl rfl rfl (by decide) (by
    simp_all [Instr.wellFormed, fits1])
theorem Framed.rehearsalReport (p : Port) (t : Nat) (c : Nat) : Framed.Statement (.rehearsalReport p t c) :=
  framed_of_frame rfl rfl rfl (by decide) (by
    simp_all [Instr.wellFormed, fits1])
theorem Framed.trainForm (p : Port) (t : Nat) (train : Nat) (segment : Nat) (lots : List Nat)
    : Framed.Statement (.trainForm p t train segment lots) :=
  framed_of_frame rfl rfl rfl (by decide) (by
    simp only [Instr.wellFormed, fits1, List.length_append, u1_length, u2_length, numbers_length, Bool.and_eq_true,
      decide_eq_true_eq]
    omega)
theorem Framed.trainDisband (p : Port) (t : Nat) (train : Nat) : Framed.Statement (.trainDisband p t train) :=
  framed_of_frame rfl rfl rfl (by decide) (by
    simp_all [Instr.wellFormed, fits1])
theorem Framed.trainMove (p : Port) (t : Nat) (train : Nat) (route : List Nat)
    : Framed.Statement (.trainMove p t train route) :=
  framed_of_frame rfl rfl rfl (by decide) (by
    simp only [Instr.wellFormed, fits1, List.length_append, u1_length, numbers_length, Bool.and_eq_true,
      decide_eq_true_eq]
    omega)
theorem Framed.moveRetry (p : Port) (t : Nat) (train : Nat) : Framed.Statement (.moveRetry p t train) :=
  framed_of_frame rfl rfl rfl (by decide) (by
    simp_all [Instr.wellFormed, fits1])
theorem Framed.moveCancel (p : Port) (t : Nat) (train : Nat) : Framed.Statement (.moveCancel p t train) :=
  framed_of_frame rfl rfl rfl (by decide) (by
    simp_all [Instr.wellFormed, fits1])
theorem Framed.distRead (p : Port) (t : Nat) (train : Nat) (page : Nat)
    : Framed.Statement (.distRead p t train page) :=
  framed_of_frame rfl rfl rfl (by decide) (by
    simp_all [Instr.wellFormed, fits1])
theorem Framed.invoiceClose (p : Port) (t : Nat) (buyer : Nat) : Framed.Statement (.invoiceClose p t buyer) :=
  framed_of_frame rfl rfl rfl (by decide) (by
    simp_all [Instr.wellFormed, fits1])
theorem Framed.invoiceCloseAll (p : Port) (t : Nat) : Framed.Statement (.invoiceCloseAll p t) :=
  framed_of_frame rfl rfl rfl (by decide) (by
    simp_all [Instr.wellFormed, fits1])
theorem Framed.paymentPost (p : Port) (t : Nat) (buyer : Nat) (cents : Nat)
    : Framed.Statement (.paymentPost p t buyer cents) :=
  framed_of_frame rfl rfl rfl (by decide) (by
    simp_all [Instr.wellFormed, fits1])
theorem Framed.journalRead (p : Port) (t : Nat) (seq : Nat) (count : Nat)
    : Framed.Statement (.journalRead p t seq count) :=
  framed_of_frame rfl rfl rfl (by decide) (by
    simp_all [Instr.wellFormed, fits1])
theorem Framed.journalRelease (p : Port) (t : Nat) (seq : Nat) : Framed.Statement (.journalRelease p t seq) :=
  framed_of_frame rfl rfl rfl (by decide) (by
    simp_all [Instr.wellFormed, fits1])
theorem Framed.lotRead (p : Port) (t : Nat) (slot : Nat) (page : Nat) : Framed.Statement (.lotRead p t slot page) :=
  framed_of_frame rfl rfl rfl (by decide) (by
    simp_all [Instr.wellFormed, fits1])
theorem Framed.trainRead (p : Port) (t : Nat) (train : Nat) : Framed.Statement (.trainRead p t train) :=
  framed_of_frame rfl rfl rfl (by decide) (by
    simp_all [Instr.wellFormed, fits1])
theorem Framed.clockRead (p : Port) (t : Nat) (c : Nat) (page : Nat) : Framed.Statement (.clockRead p t c page) :=
  framed_of_frame rfl rfl rfl (by decide) (by
    simp_all [Instr.wellFormed, fits1])
theorem Framed.accountRead (p : Port) (t : Nat) (buyer : Nat) : Framed.Statement (.accountRead p t buyer) :=
  framed_of_frame rfl rfl rfl (by decide) (by
    simp_all [Instr.wellFormed, fits1])
theorem Framed.deskRead (p : Port) (t : Nat) (desk : Nat) : Framed.Statement (.deskRead p t desk) :=
  framed_of_frame rfl rfl rfl (by decide) (by
    simp_all [Instr.wellFormed, fits1])
theorem Framed.portStatus (p : Port) (t : Nat) (port : Nat) : Framed.Statement (.portStatus p t port) :=
  framed_of_frame rfl rfl rfl (by decide) (by
    simp_all [Instr.wellFormed, fits1])
theorem Framed.noticePeek (p : Port) (t : Nat) : Framed.Statement (.noticePeek p t) :=
  framed_of_frame rfl rfl rfl (by decide) (by
    simp_all [Instr.wellFormed, fits1])
theorem Framed.noticeTake (p : Port) (t : Nat) : Framed.Statement (.noticeTake p t) :=
  framed_of_frame rfl rfl rfl (by decide) (by
    simp_all [Instr.wellFormed, fits1])
theorem Framed.noticeEnable (p : Port) (t : Nat) (mask : BitVec 8) : Framed.Statement (.noticeEnable p t mask) :=
  framed_of_frame rfl rfl rfl (by decide) (by
    simp_all [Instr.wellFormed, fits1])
theorem Framed.data (p : Port) (t : Nat) (u : DataUnit) : Framed.Statement (.data p t u) := by
  cases u <;> exact framed_of_frame rfl rfl rfl (by decide) (by
    simp_all [Instr.wellFormed, fits1])
theorem Framed.unknownCommand (p : Port) (t : Nat) : Framed.Statement (.unknownCommand p t) := framed_of_none rfl rfl
theorem Framed.portExchange (p : Port) (given : List Byte)
    : Framed.Statement (.portExchange p given) := framed_of_none rfl rfl
theorem Framed.invoiceWalkStep : Framed.Statement (.invoiceWalkStep) := framed_of_none rfl rfl
theorem Framed.deskFrameReceive (f : WireFrame) : Framed.Statement (.deskFrameReceive f) := framed_of_none rfl rfl
theorem Framed.stop : Framed.Statement (.stop) := framed_of_none rfl rfl
theorem Framed.quantity : Framed.Statement (.quantity) := framed_of_none rfl rfl
theorem Framed.signIn : Framed.Statement (.signIn) := framed_of_none rfl rfl
theorem Framed.signOut : Framed.Statement (.signOut) := framed_of_none rfl rfl
theorem Framed.statusAsk : Framed.Statement (.statusAsk) := framed_of_none rfl rfl
theorem Framed.malformedFrameDiscard : Framed.Statement (.malformedFrameDiscard) := framed_of_none rfl rfl
theorem Framed.pendingStartDue (c : Nat) : Framed.Statement (.pendingStartDue c) := framed_of_none rfl rfl
theorem Framed.stepTimerExpiry (c : Nat) : Framed.Statement (.stepTimerExpiry c) := framed_of_none rfl rfl
theorem Framed.settleExpiry (c : Nat) : Framed.Statement (.settleExpiry c) := framed_of_none rfl rfl
theorem Framed.holdTimerExpiry (c : Nat) : Framed.Statement (.holdTimerExpiry c) := framed_of_none rfl rfl
theorem Framed.restartTimerExpiry (c : Nat) : Framed.Statement (.restartTimerExpiry c) := framed_of_none rfl rfl
theorem Framed.launchWindowAgeOut (group : Nat)
    : Framed.Statement (.launchWindowAgeOut group) := framed_of_none rfl rfl
theorem Framed.transitTimerExpiry (train : Nat)
    : Framed.Statement (.transitTimerExpiry train) := framed_of_none rfl rfl
theorem Framed.senseLineChange (segment : Nat) (level : Bool)
    : Framed.Statement (.senseLineChange segment level) := framed_of_none rfl rfl
theorem Framed.senseFilterExpiry (segment : Nat)
    : Framed.Statement (.senseFilterExpiry segment) := framed_of_none rfl rfl
theorem Framed.frameSendBegin : Framed.Statement (.frameSendBegin) := framed_of_none rfl rfl
theorem Framed.broadcastSent : Framed.Statement (.broadcastSent) := framed_of_none rfl rfl
theorem Framed.disturbance : Framed.Statement (.disturbance) := framed_of_none rfl rfl
theorem Framed.replyDelivered : Framed.Statement (.replyDelivered) := framed_of_none rfl rfl
theorem Framed.replyNotDelivered : Framed.Statement (.replyNotDelivered) := framed_of_none rfl rfl
theorem Framed.supplyWarn : Framed.Statement (.supplyWarn) := framed_of_none rfl rfl
theorem Framed.supplyRestored : Framed.Statement (.supplyRestored) := framed_of_none rfl rfl
theorem Framed.supplyFail : Framed.Statement (.supplyFail) := framed_of_none rfl rfl
theorem Framed.supplyReturn (found : List StoreFind)
    : Framed.Statement (.supplyReturn found) := framed_of_none rfl rfl
theorem Framed.resetLineAssert : Framed.Statement (.resetLineAssert) := framed_of_none rfl rfl
theorem Framed.resetLineRelease : Framed.Statement (.resetLineRelease) := framed_of_none rfl rfl
theorem Framed.powerUpSequence : Framed.Statement (.powerUpSequence) := framed_of_none rfl rfl
theorem Framed.floorTimeMillisecond : Framed.Statement (.floorTimeMillisecond) := framed_of_none rfl rfl

end Sys2Proof.Laws
end

