-- ==== Sys2Proof/Tests/Slice0.lean ====
section
/-! SUPPORT. Tests/Slice0.lean: ill-formed commands refused, frames read from bytes, the worked examples of the spec, and a
state for the hypotheses of each obligation. Expected values come from the spec's examples and tables, or from its rules
by hand. -/

namespace Sys2Proof.Tests
open Sys2Proof Sys2Proof.Machine

/-! ## WellFormed refuses each ill-formed operand -/

def goodLot : LotFields :=
  { slot := 1, catalogue := 2, total := 400, unit := 40, minTake := 2, reserve := 200, startPrice := none
    reofferLimit := 1 }
def goodSegment : SegFields :=
  { segment := 1, kind := 0, param := 0, succ := [2], group := 0, edge := 1, filter := 0 }
def goodAccount : AccountFields :=
  { state := 1, badge := 7001, limit := 200000, feeClass := 1, bay := some 3, amounts := none }

theorem test_wf_good :
    (Instr.lotWrite .sup 255 4096 goodLot).wellFormed = true ∧
    (Instr.accountWrite .sup 0 305 goodAccount).wellFormed = true ∧
    (Instr.data .sup 0 (.segment goodSegment)).wellFormed = true := by decide
theorem test_wf_tag : (Instr.floorReset .sup 256).wellFormed = false := by decide
theorem test_wf_one_byte : (Instr.clockLoad .auc 0 256).wellFormed = false := by decide
theorem test_wf_two_bytes : (Instr.lotRead .fin 0 65536 0).wellFormed = false := by decide
theorem test_wf_three_bytes : (Instr.feeClassWrite .sup 0 0 0 0 16777216).wellFormed = false := by decide
theorem test_wf_four_bytes : (Instr.timeSet .sup 0 4294967296).wellFormed = false := by decide
theorem test_wf_six_bytes : (Instr.paymentPost .fin 0 0 281474976710656).wellFormed = false := by decide
theorem test_wf_amount : (Instr.accountWrite .sup 0 0 { goodAccount with limit := 140737488355328 }).wellFormed = false := by
  decide
theorem test_wf_start_price : (Instr.lotWrite .sup 0 1 { goodLot with startPrice := some 0 }).wellFormed = false := by
  decide
theorem test_wf_lot : (Instr.data .sup 0 (.lot { goodLot with minTake := 256 })).wellFormed = false := by decide
theorem test_wf_successors :
    (Instr.data .sup 0 (.segment { goodSegment with succ := [1, 2, 3, 4] })).wellFormed = false ∧
    (Instr.data .sup 0 (.segment { goodSegment with succ := [65535] })).wellFormed = false := by decide
theorem test_wf_bay : (Instr.accountWrite .sup 0 0 { goodAccount with bay := some 255 }).wellFormed = false := by decide
theorem test_wf_settings :
    (Instr.clockSet .auc 0 0 { Settings.default with lead := 65536 }).wellFormed = false := by decide
theorem test_wf_lists :
    (Instr.trainForm .yrd 0 0 0 (List.replicate 126 1)).wellFormed = false ∧
    (Instr.trainMove .yrd 0 0 (List.replicate 127 1)).wellFormed = false ∧
    (Instr.trainMove .yrd 0 0 [65536]).wellFormed = false := by simp [Instr.wellFormed, fits1, fits2]
theorem test_wf_event_numbers :
    (Instr.stepTimerExpiry 6).wellFormed = false ∧ (Instr.launchWindowAgeOut 4).wellFormed = false ∧
    (Instr.transitTimerExpiry 64).wellFormed = false ∧ (Instr.senseLineChange 128 true).wellFormed = false := by decide
theorem test_wf_desk_frame :
    (Instr.deskFrameReceive { cls := 4, arb := 0, source := 1, length := 0, payload := [], check := 0 }).wellFormed = false ∧
    (Instr.deskFrameReceive { cls := 1, arb := 0, source := 1, length := 2, payload := [], check := 0 }).wellFormed = false :=
  by decide
theorem test_wf_store : (Instr.supplyReturn [.lot 4096 none 0]).wellFormed = false := by decide

/-! ## Frames read from bytes written out from R196 and R198 -/

/-- A role from each port, with the code, tag, length and fields of R196. -/
theorem test_decode_port_frames :
    decodeFrame .sup none [0x11#8, 7#8, 2#8, 0x01#8, 0x02#8] = .command (.lotWithdraw .sup 7 258) ∧
    decodeFrame .auc none [0x21#8, 8#8, 2#8, 5#8, 1#8] = .command (.clockMode .auc 8 5 true) ∧
    decodeFrame .yrd none [0x32#8, 9#8, 6#8, 3#8, 2#8, 0#8, 10#8, 0#8, 11#8] = .command (.trainMove .yrd 9 3 [10, 11]) ∧
    decodeFrame .fin none [0x42#8, 1#8, 8#8, 2#8, 0#8, 0#8, 0#8, 0#8, 0#8, 0x75#8, 0x30#8] =
      .command (.paymentPost .fin 1 512 30000) ∧
    decodeFrame .fin none [0x57#8, 2#8, 0#8] = .command (.noticeTake .fin 2) := by decide

/-- A lot record of 18 bytes and an account record with its amounts part (R196). -/
theorem test_decode_records :
    decodeFrame .sup none ([0x10#8, 1#8, 20#8, 0x10#8, 0x00#8, 0x06#8, 0xC2#8, 0#8, 0#8, 0#8, 77#8, 0x01#8, 0x90#8, 0#8, 40#8,
      2#8, 0#8, 0#8, 200#8, 0#8, 0#8, 0#8, 1#8]) =
      .command (.lotWrite .sup 1 4096
        { slot := 1730, catalogue := 77, total := 400, unit := 40, minTake := 2, reserve := 200, startPrice := none
          reofferLimit := 1 }) ∧
    decodeFrame .sup none ([0x15#8, 1#8, 26#8, 2#8, 0#8, 1#8, 0#8, 0x1B#8, 0x59#8, 0#8, 0#8, 0#8, 7#8, 0xA1#8, 0x20#8, 1#8,
      0xFF#8, 0xFF#8, 0xFF#8, 0xFF#8, 0xFF#8, 0xFF#8, 0xFF#8, 0#8, 0#8, 0#8, 4#8, 0x0B#8, 0xE2#8]) =
      .command (.accountWrite .sup 1 512
        { state := 1, badge := 7001, limit := 500000, feeClass := 1, bay := none, amounts := some (-1, 265186) }) := by
  decide

/-- The codes that stand next to each group of the list of R196 are undefined. -/
theorem test_undefined_codes :
    ∀ code ∈ [0x00#8, 0x0F#8, 0x1B#8, 0x1F#8, 0x2B#8, 0x2F#8, 0x36#8, 0x3F#8, 0x45#8, 0x4F#8, 0x59#8, 0x5E#8, 0x60#8, 0xFF#8],
      decodeFrame .sup none [code, 9#8, 1#8, 0#8] = .command (.unknownCommand .sup 9) := by decide

/-- A STOP for clock 3 at position 13, a take-all QUANTITY for clock 3, and a SIGN_IN (R198). -/
theorem test_desk_frames :
    readDesk { cls := 1, arb := 0b0001101011000000#16, source := 118, payload := [0x11#8, 41#8] } = .stop 3 13 118 41 ∧
    readDesk { cls := 2, arb := 0b0110000000000000#16, source := 42, payload := [0x12#8, 41#8, 0xFF#8, 0xFF#8] } =
      .quantity 3 42 41 .takeAll ∧
    readDesk { cls := 3, arb := 0, source := 42, payload := [0x31#8, 0#8, 0x1B#8, 0x59#8] } = .signIn 42 7001 ∧
    readDesk { cls := 3, arb := 0, source := 42, payload := [0x11#8, 41#8] } = .malformed := by decide

/-! ## Purchase arithmetic (R118, R126, 06 section 6.6) -/

theorem test_percent_fees :
    percentFee 99 50 = 0 ∧ percentFee 100 50 = 1 ∧ percentFee 27760 150 = 416 ∧ percentFee 83280 150 = 1249 ∧
    percentFee 138800 150 = 2082 ∧ percentFee 5999940000 2000 = 1199988000 := by decide
theorem test_largest_net :
    netOf { stemFee := 999, percentage := 2000, minimum := 100000 } 99999 60000 = 7259868000 := by decide
theorem test_minimum_fee :
    feeOf { stemFee := 1, percentage := 100, minimum := 500 } 12 446 = 500 ∧
    feeOf { stemFee := 1, percentage := 100, minimum := 500 } 12 447 = 501 := by decide
theorem test_invoice_cents :
    invoiceCents 85249 = 8525 ∧ invoiceCents 205249 = 20525 ∧ invoiceCents 40839 = 4084 ∧ invoiceCents (-5) = -1 ∧
    invoiceCents (-4) = 0 := by decide

/-! ## The sale of lot 1,730 on clock 3 (05 section 5.9) -/

def feeOne : FeeClass := { stemFee := 3, percentage := 150, minimum := 500 }
def lot1730 : LotRec :=
  { state := .onClock, catalogue := 77, total := 400, remaining := 400, unit := 40, minTake := 2, reserve := 200
    startPrice := none, reofferLimit := 1, runouts := 0, purchases := [], train := none, clock := some 3
    lastSeq := none }
def buyer (badge : Nat) (limit opened billed : Int) (feeClass desk : Nat) : Account :=
  { Account.vacant with
    state := .active, badge := some badge, limit := limit, openAmt := opened, billedAmt := billed, feeClass := feeClass
    desk := some desk }
def bound (b : Nat) : Desk := { Desk.reset with buyer := some b }

/-- Clock 3 at position 12 of the run of tag 41. -/
def clock3 : Clock :=
  { Clock.reset with
    set := { Settings.default with
      step := 3, span := 60, grace := 1, restartRaise := 4, interval := 40, settle := 60, hold := 6000
      restartDelay := 1000 }
    state := .running, lot := some 1730, startPrice := some 380, reserve := some 200, position := some 12, tag := 41
    reserved := true, timer := some 25 }

/-- The floor of the example with clock 3 as given, and frames waiting in the inbound queue. -/
def floor (k : Clock) (frames : List DeskFrame) : State :=
  { State.reset with
    lots := [(1730, { lot := some lot1730, found := none })]
    accounts := [(9, { acct := buyer 11 300000 0 0 0 300, found := none }),
      (305, { acct := buyer 12 200000 50000 0 1 118, found := none }),
      (512, { acct := buyer 13 500000 120000 60000 1 42, found := none })]
    journal :=
      { copy1 := { values := { used := 640, reserved := 1, newest := some 1203, oldestPlace := 0 }, found := none }
        copy2 := { values := { used := 640, reserved := 1, newest := some 1203, oldestPlace := 0 }, found := none }
        places := [] }
    clocks := [(3, k)], fees := [(1, feeOne)], desks := [(42, bound 512), (118, bound 305), (300, bound 9)]
    line := { Line.reset with inbound := frames }, floorTime := 500495 }

def stopFrame (desk position : Nat) : DeskFrame :=
  { cls := 1, arb := BitVec.ofNat 16 (position * 512 + 3 * 64), source := desk, payload := [0x11#8, 41#8] }
def quantityFrame (desk stems : Nat) : DeskFrame :=
  { cls := 2, arb := BitVec.ofNat 16 (3 * 8192), source := desk, payload := [0x12#8, 41#8] ++ u2 stems }

/-- The state after a command. -/
def after (c : Instr) (s : State) : State :=
  match exec c s with
  | .next t => t
  | .fault _ => s
  | .refused _ => s

/-- The codes of the desk replies in the outbound queue, with their desks. -/
def told (s : State) : List (Nat × DeskCode) :=
  s.line.outbound.filterMap fun p =>
    match p.frame with
    | .reply d k _ _ _ => some (d, k)
    | _ => none

def stopped : State := after .stop (floor clock3 [stopFrame 118 13, stopFrame 42 11, stopFrame 300 10])

/-- Desk 118's stop at 13 is clamped to 12 and takes the clock at 344 with a hold of 28,173. -/
theorem test_first_stop :
    (stopped.clock 3).winner =
      some { desk := 118, buyer := some 305, position := 12, price := 344, hold := 28173, given := none } ∧
    (stopped.acct 305).heldAmt = 28173 ∧ (stopped.clock 3).state = .settling := by decide

/-- Desk 42's stop at 11 takes the sale at 347 with a hold of 28,416; desk 118 is OUTBID. -/
theorem test_replacement :
    ((after .stop stopped).clock 3).winner =
      some { desk := 42, buyer := some 512, position := 11, price := 347, hold := 28416, given := none } ∧
    ((after .stop stopped).acct 305).heldAmt = 0 ∧ ((after .stop stopped).acct 512).heldAmt = 28416 ∧
    told (after .stop stopped) = [(118, .accepted), (118, .outbid), (42, .accepted)] := by decide

/-- Desk 300's stop at 10 is LATE. -/
theorem test_late_stop :
    told (after .stop (after .stop stopped)) = [(118, .accepted), (118, .outbid), (42, .accepted), (300, .late)] := by
  decide

def winner42 : Winner := { desk := 42, buyer := some 512, position := 11, price := 347, hold := 28416, given := none }
def held3 : Clock := { clock3 with state := .held, winner := some winner42, timer := some 0 }
/-- The held sale, with desk 42's hold placed. -/
def heldFloor (frames : List DeskFrame) : State :=
  (floor held3 frames).setAcct 512 { buyer 13 500000 120000 60000 1 42 with heldAmt := 28416 }
def sold : State := after .quantity (heldFloor [quantityFrame 42 250])

/-- 250 stems become 240; the net is 85,249 and the open amount 205,249. -/
theorem test_commit :
    (sold.acct 512).openAmt = 205249 ∧ (sold.acct 512).heldAmt = 0 ∧
    (sold.lot 1730).map (·.remaining) = some 160 ∧
    (sold.lot 1730).map (·.purchases) =
      some [{ buyer := 512, desk := 42, stems := 240, price := 347, position := 11, net := 85249, seq := 1204 }] := by decide
/-- The journal takes entry 1,204 and the clock waits to restart at 7. -/
theorem test_commit_clock :
    sold.values = { used := 641, reserved := 0, newest := some 1204, oldestPlace := 0 } ∧
    (sold.clock 3).state = .restartWait ∧ (sold.clock 3).nextStart = some 7 ∧ (sold.clock 3).lastSold = some 1730 := by
  decide
/-- The restart opens the run of tag 42 at position 7, price 359. -/
theorem test_restart :
    ((after (.restartTimerExpiry 3) (sold.setClock 3 { sold.clock 3 with timer := some 0 })).line.outbound.getLast?).map
        (·.frame) = some (.run 3 42 380 3 40 7 200 false) ∧ priceAt (sold.clock 3) 7 = 359 := by decide
/-- The void takes the 85,249 mils back and leaves the clock PAUSED at a next start of 0. -/
theorem test_void :
    ((after (.voidLast .auc 1 3) sold).acct 512).openAmt = 120000 ∧
    ((after (.voidLast .auc 1 3) sold).values.used) = 642 ∧
    ((after (.voidLast .auc 1 3) sold).clock 3).nextStart = some 0 ∧
    ((after (.voidLast .auc 1 3) sold).lot 1730).map (·.remaining) = some 400 := by decide
/-- A second void finds the list empty. -/
theorem test_second_void :
    (((after (.voidLast .auc 2 3) (after (.voidLast .auc 1 3) sold)).port .auc).slot).map (·.code) = some .empty := by decide
/-- A take-all against a room of 80,000 is fitted to 200 stems (06 section 6.6.2). -/
theorem test_fitted_quantity :
    finalStems .takeAll lot1730 (fitsRoom feeOne 347 (roomOf
      { buyer 13 250000 140000 30000 1 42 with heldAmt := 28416 } 28416)) = 200 := by decide
/-- An invoice close that saturates the billed amount (06 section 6.6.5). -/
theorem test_saturated_close :
    let s := after (.invoiceClose .fin 1 400) ((floor clock3 []).setAcct 400
      (buyer 14 140737488355327 85249 140737488300000 1 7))
    (s.acct 400).billedAmt = 140737488355327 ∧ (s.acct 400).openAmt = -1 ∧ (s.acct 400).isOver = true ∧
    (s.flag .fin 2).pending = true := by decide
/-- 30,000 cents against 265,250 mils billed: 26,525 applied, 3,475 not (07 section 7.9). -/
theorem test_payment :
    let s := after (.paymentPost .fin 1 512 30000) ((floor clock3 []).setAcct 512
      (buyer 13 500000 40839 265250 1 42))
    (s.acct 512).billedAmt = 0 ∧ ((s.port .fin).slot).map (·.fields) =
      some (u6 30000 ++ s6 26525 ++ s6 3475 ++ s6 0) := by decide

/-! ## States that meet the hypotheses of the obligations

`witness_<Name>` meets those of `Obligations.<Name>`, each clause at a boundary of its range. -/

theorem reset_ready (p : Port) : State.reset.Ready p := ⟨rfl, by cases p <;> rfl⟩

def haltPlace : OutPlace := { frame := .halt 0 1 .pause 3 100, sent := 0 }
def replyPlace : OutPlace := { frame := .reply 42 .won (some 3) 41 .nothing, sent := 0 }
def entry8 : List QEntry := List.replicate 8 { lot := 1, origin := .train, announce := none }
/-- Every queue is full, and the head of the outbound queue has been begun ahead of a reply. -/
def crowded : State :=
  { State.reset with
    line := { Line.reset with
      inbound := List.replicate 32 (stopFrame 118 13)
      outbound := { haltPlace with sent := 1 } :: replyPlace :: List.replicate 14 haltPlace }
    yard := { Yard.reset with moves := List.range 16, windows := [(1, List.replicate 4 { time := 0, age := 0 })] }
    pres := [(2, { Pres.reset with queue := entry8 })], pending := [.frameSendBegin] }

theorem witness_EveryStepKeepsTheQueues :
    crowded.QueuesFit ∧ crowded.RepliesAhead ∧ ∃ t, step crowded = .next t := by
  refine ⟨⟨by decide, by decide, by decide, by decide, by decide⟩, ⟨by decide, ?_, by decide⟩, ⟨_, rfl⟩⟩
  intro a l h h0
  cases h
  cases h0

def tables : State := heldFloor [quantityFrame 42 250]

theorem tables_wf : tables.TablesWf :=
  ⟨by decide, by decide, by decide, by decide, by decide, by decide, by decide, by decide, by decide, by decide,
    by decide, fun p => by cases p <;> decide⟩

theorem witness_EveryStepKeepsTheTablesCanonical :
    tables.TablesWf ∧ ∃ t, step (tables.withPending [.quantity]) = .next t := ⟨tables_wf, ⟨_, rfl⟩⟩

def partSold : LotRec :=
  { lot1730 with
    remaining := 160
    purchases := [{ buyer := 512, desk := 42, stems := 240, price := 347, position := 11, net := 85249, seq := 1204 }] }
def oneLot (r : LotRec) : State := { State.reset with lots := [(1730, { lot := some r, found := none })] }

theorem witness_PurchasedAndRemainingStemsEqualTheTotal :
    (∀ l rest, (oneLot partSold).pending ≠ .supplyReturn l :: rest) ∧ (oneLot partSold).LotsAddUp ∧
    ∃ t, step (oneLot partSold) = .next t := by
  refine ⟨fun l rest h => (List.cons_ne_nil _ _ h.symm).elim, ⟨rfl, ?_⟩, ⟨_, rfl⟩⟩
  intro x hx r hr
  simp only [oneLot, List.mem_singleton] at hx
  subst hx
  cases hr
  rfl

/-- An account that stands exactly at its limit, with OVER clear. -/
def atLimit : State :=
  { State.reset with accounts := [(512, { acct := buyer 13 180000 120000 60000 1 42, found := none })] }

theorem witness_AccountsNotOverStandWithinTheirLimit : atLimit.OverHolds ∧ ∃ t, step atLimit = .next t :=
  ⟨fun _ => by decide, ⟨_, rfl⟩⟩

def oneBinding : State := { atLimit with desks := [(42, bound 512)] }

theorem witness_BindingsStandOnBothSides : oneBinding.BindingsAgree ∧ ∃ t, step oneBinding = .next t := by
  refine ⟨⟨by decide, by decide, fun _ d b => ?_⟩, ⟨_, rfl⟩⟩
  by_cases h : 42 = d <;> by_cases k : 512 = b <;>
    simp [oneBinding, atLimit, State.desk, State.acct, Tab.get, bound, buyer, Desk.reset, AcctCell.vacant, Account.vacant, h, k]

/-- Used 8191 and reserved 1. -/
def fullJournal : State :=
  let c : ValuesCopy := { values := { used := 8191, reserved := 1, newest := some 9000, oldestPlace := 5 }, found := none }
  { floor clock3 [] with journal := { copy1 := c, copy2 := c, places := [] } }

theorem witness_JournalReservationsMatchTheClocks :
    (∀ l rest, fullJournal.pending ≠ .supplyReturn l :: rest) ∧ fullJournal.ReservationsHold ∧
    ∃ t, step fullJournal = .next t := by
  refine ⟨fun l rest h => (List.cons_ne_nil _ _ h.symm).elim,
    ⟨rfl, by decide, by decide, by decide, fun _ => rfl, fun _ => by decide, fun _ x hx => ?_⟩, ⟨_, rfl⟩⟩
  have : x = (3, clock3) := by simpa [fullJournal, floor] using hx
  subst this
  exact ⟨fun _ _ => rfl, fun _ => rfl, fun _ => rfl, fun h => by cases h⟩

def oneEntry : JEntry :=
  { seq := 9, kind := .purchase, clock := 3, time := 1, lot := 1730, catalogue := 77, buyer := 512, desk := 42, tag := 41
    position := 11, price := 347, stems := 240, gross := 83280, fee := 1969, net := 85249, voided := none, check := 0
    damaged := false }
/-- One held entry, sequence 9, in the last place. -/
def journalled : State :=
  let c : ValuesCopy := { values := { used := 1, reserved := 0, newest := some 9, oldestPlace := 8191 }, found := none }
  { State.reset with journal := { copy1 := c, copy2 := c, places := [(8191, some oneEntry)] } }

theorem witness_HeldJournalEntriesAreNotChanged :
    (∀ l, Instr.noticePeek .fin 1 ≠ .supplyReturn l) ∧ journalled.ReservationsHold ∧ journalled.isOn = true ∧
    ∃ t, exec (.noticePeek .fin 1) journalled = .next t ∧ journalled.heldPlace 8191 ∧ t.heldPlace 8191 := by
  refine ⟨nofun, ⟨rfl, by decide, by decide, by decide, fun _ => rfl, fun _ => by decide, fun _ x hx => nomatch hx⟩, rfl,
    ⟨_, rfl, ⟨0, by decide, rfl⟩, ⟨0, by decide, rfl⟩⟩⟩

theorem witness_CommandsOfAnotherRoleAreRefused :
    (Instr.floorReset .auc 9).given = some (.auc, 9) ∧ (Instr.floorReset .auc 9).role = some .sup ∧ Port.sup ≠ .auc ∧
    State.reset.Ready .auc := ⟨rfl, rfl, by decide, reset_ready _⟩

def offPart : State := { State.reset with power := { monitor := .off, level := .good, resetActive := false } }
def startingPart : State := { State.reset with power := { monitor := .starting, level := .good, resetActive := false } }

theorem witness_PartThatIsNotOnTakesNothing :
    offPart.isOn = false ∧ startingPart.isOn = false ∧ (Instr.data .fin 255 .nothing).given.isSome = true := by decide

def transfer : Xfer := { kind := .lotWrite, expected := some 4096, done := 4095, next := 0 }
def withXfer (p : Port) (x : Xfer) : State :=
  State.reset.setPort p { State.reset.port p with xfer := some x, busy := true }

theorem witness_OpenTransferIsAbortedBeforeTheCommand :
    (Instr.portStatus .sup 1 0).given = some (.sup, 1) ∧ (∀ q n u, Instr.portStatus .sup 1 0 ≠ .data q n u) ∧
    (withXfer .sup transfer).isOn = true ∧ ((withXfer .sup transfer).port .sup).xfer = some transfer :=
  ⟨rfl, nofun, rfl, rfl⟩

theorem witness_NumbersOutsideTheirTableAreRefused :
    (∀ p, State.reset.Ready p) ∧
    (((after (.lotRead .fin 1 4096 0) State.reset).port .fin).slot).map (·.code) = some .noRecord ∧
    (((after (.lotRead .fin 1 4095 0) State.reset).port .fin).slot).map (·.code) = some .ok ∧
    (((after (.deskRead .fin 1 512) State.reset).port .fin).slot).map (·.code) = some .noRecord ∧
    (((after (.deskRead .fin 1 511) State.reset).port .fin).slot).map (·.code) = some .ok ∧
    (((after (.lotWrite .sup 1 1 { goodLot with slot := 4096 }) State.reset).port .sup).slot).map (·.code) =
      some .noRecord ∧
    (((after (.lotWrite .sup 1 2 { goodLot with slot := 4095 }) State.reset).port .sup).slot).map (·.code) = some .ok ∧
    (((after (.trainMove .yrd 1 63 [128]) State.reset).port .yrd).slot).map (·.code) = some .noRecord ∧
    (((after (.trainForm .yrd 1 63 127 [4096]) State.reset).port .yrd).slot).map (·.code) = some .noRecord ∧
    ((withXfer .sup transfer).isOn = true ∧ ((withXfer .sup transfer).port .sup).xfer = some transfer ∧
      transfer.kind = .lotWrite ∧ 4096 ≤ ({ goodLot with slot := 4096 } : LotFields).slot) ∧
    ((withXfer .sup { transfer with kind := .layoutWrite }).underWay = false ∧
      128 ≤ ({ goodSegment with segment := 128 } : SegFields).segment ∧
      ∃ g ∈ ({ goodSegment with succ := [127, 128] } : SegFields).succ, 128 ≤ g) :=
  ⟨reset_ready, by decide, by decide, by decide, by decide, by decide, by decide, by decide, by decide, by decide, by decide⟩

theorem witness_FrameOfACommandReadsBackAsTheCommand :
    (Instr.journalRead .fin 255 4294967295 255).given = some (.fin, 255) ∧
    (Instr.journalRead .fin 255 4294967295 255).wellFormed = true ∧
    (encodeFrame (.journalRead .fin 255 4294967295 255)).isSome = true ∧
    (Instr.data .sup 0 (.lot goodLot)).wellFormed = true ∧
    (encodeFrame (.data .sup 0 (.lot goodLot))).map (·.length - 3) = some 18 := by decide

theorem witness_UndefinedCodesAndBrokenFrames :
    ([1#8, 2#8] : List Byte).length < 3 ∧ ([] : List Byte).length ≠ (1#8).toNat ∧ ([] : List Byte).length = (0#8).toNat ∧
    (0x0F#8).toNat < 0x10 ∧ State.reset.Ready .yrd := ⟨by decide, by decide, by decide, by decide, reset_ready _⟩

theorem witness_ExchangeReturnsTheReplyAndTakesOneFrame :
    State.reset.isOn = true ∧ decodeFrame .sup none [1#8] = .discarded ∧
    decodeFrame .sup none [0x1A#8, 5#8, 0#8] = .command (.floorReset .sup 5) ∧ startingPart.power.monitor = .starting ∧
    offPart.power.monitor = .off := by decide

def registered : LotRec := { lot1730 with state := .registered, clock := none }
def closedLot : LotRec := { lot1730 with state := .withdrawn, clock := none }

theorem witness_LotWriteStoresTheClampedLot :
    State.reset.Ready .sup ∧ State.reset.lot 4095 = none ∧ (oneLot registered).lot 1730 = some registered ∧
    registered.state = .registered ∧ registered.purchases = [] ∧ (oneLot closedLot).lot 1730 = some closedLot ∧
    closedLot.state ≠ .registered ∧ (oneLot registered).Ready .sup ∧ (oneLot closedLot).Ready .sup :=
  ⟨reset_ready _, by decide, by decide, rfl, rfl, by decide, by decide, ⟨rfl, rfl⟩, ⟨rfl, rfl⟩⟩

def queuedLot : LotRec := { lot1730 with state := .queued, clock := some 5 }

theorem witness_LotsAreWithdrawnAndReleased :
    (oneLot lot1730).Ready .sup ∧ lot1730.state = .onClock ∧ (oneLot registered).lot 1730 = some registered ∧
    (oneLot queuedLot).lot 1730 = some queuedLot ∧ queuedLot.state = .queued ∧ queuedLot.clock = some 5 ∧
    closedLot.state.closed = true ∧ closedLot.train = none ∧ closedLot.lastSeq = none ∧
    journalled.values.holds 9 = true ∧ journalled.values.holds 8 = false :=
  ⟨⟨rfl, rfl⟩, rfl, by decide, by decide, rfl, rfl, rfl, rfl, rfl, by decide, by decide⟩

def layout (kind : SegKind) (succ : List Nat) : SegLayout :=
  { kind := kind, succ := succ, group := 3, rising := true, filter := 20 }
def seg (kind : SegKind) (succ : List Nat) (q : SegState) : Segment :=
  { layout := some (layout kind succ), state := q, level := false, timing := none }
def yardWith (segs : Tab Segment) (trains : Tab Train) (moves : List Nat) : State :=
  { State.reset with yard := { Yard.reset with segs := segs, trains := trains, moves := moves } }
def moving : Train :=
  { Train.empty with
    state := .moving, head := some 0, occupied := [0], move := some { route := [0, 1], next := 1 }, timer := some 0 }

theorem witness_LayoutTimesAndFaultsAreSet :
    State.reset.Ready .sup ∧ State.reset.underWay = false ∧ (yardWith [] [(63, moving)] []).underWay = true ∧
    ((yardWith [(127, seg .store [] (.fault (some 63)))] [] []).seg 127).vacant = true ∧
    ((yardWith [(127, seg .store [] (.fault none))] [] []).seg 127).state = .fault none ∧
    ((yardWith [(127, { seg .store [] (.fault none) with level := true })] [] []).seg 127).vacant = false :=
  ⟨reset_ready _, by decide, by decide, by decide, by decide, by decide⟩

def oneAccount (a : Account) : State := { State.reset with accounts := [(1023, { acct := a, found := none })] }

theorem witness_AccountWriteStoresOrRetires :
    (State.reset.badgeElsewhere 1023 7001 = false ∧ (State.reset.acct 1023).heldAmt ≤ 0 ∧
      (State.reset.acct 1023).state ≠ .damaged ∧ goodAccount.state = 1 ∧ goodAccount.badge ≠ 0) ∧
    ((oneAccount { buyer 7001 9 1 1 0 1 with heldAmt := 7 }).acct 1023).badge = some goodAccount.badge ∧
    ((oneAccount { buyer 7001 9 1 1 0 1 with state := .damaged }).acct 1023).state = .damaged ∧
    ((oneAccount (buyer 7001 9 0 0 0 1)).acct 1023).openAmt = 0 ∧ ((oneAccount (buyer 7001 9 (-1) 0 0 1)).acct 1023).openAmt ≠ 0 ∧
    (State.reset.acct 1023).state = .vacant := by decide

theorem witness_FeeClassTimeAndFormatAreStored :
    State.reset.Ready .sup ∧ State.reset.values.used = 0 ∧ journalled.Ready .sup ∧ journalled.values.used ≠ 0 :=
  ⟨reset_ready _, rfl, ⟨rfl, rfl⟩, by decide⟩

theorem witness_DeskUnbindUnbindsBothSides :
    (heldFloor []).Ready .sup ∧ (heldFloor []).isWinner 42 = true ∧ (heldFloor []).isWinner 118 = false ∧
    ((heldFloor []).desk 118).buyer = some 305 ∧ ((heldFloor []).desk 511).buyer = none ∧
    (heldFloor []).isWinner 511 = false := ⟨⟨rfl, rfl⟩, by decide, by decide, by decide, by decide, by decide⟩

def underWay : State :=
  yardWith [(0, seg .store [1] (.occupied 63)), (1, seg .track [2] (.reserved 63)), (2, seg .store [] (.fault (some 63)))]
    [(63, { moving with move := some { route := [0, 1, 2], next := 1 } })] []

/-- Train 63 presents its lots to clock 5 on segment 0. -/
def presenting (lots : List Nat) : State :=
  let r : Train :=
    { Train.empty with state := .presenting, lots := lots, head := some 0, occupied := [0], clock := some 5 }
  { yardWith [(0, { layout := some (layout (.present 5) []), state := .occupied 63, level := true, timing := none })]
      [(63, r)] [] with
    lots := [(1730, { lot := some { registered with state := .onTrain, train := some 63 }, found := none })]
    pres := [(5, { Pres.reset with train := some 63 })] }

/-- The outbound queue is full, with nothing in it that can be displaced. -/
def fullLine (s : State) : State :=
  { s with line := { Line.reset with inbound := s.line.inbound, outbound := List.replicate 16 haltPlace } }
def announcePlace (c l : Nat) : OutPlace := { frame := .announce c 1 l 77 400 40 80 200 none 0, sent := 0 }
/-- The outbound queue is full, with the ANNOUNCE of lot 1730 on clock 5 at its head. -/
def announceLine (s : State) : State :=
  { s with line := { Line.reset with
      inbound := s.line.inbound, outbound := announcePlace 5 1730 :: List.replicate 15 haltPlace } }
/-- A frame is placed in a free place. -/
theorem room_placed (s : State) (f : OutFrame) (h : s.line.outbound.length < 16) : ∃ v, s.Placed f v := ⟨_, .inl ⟨h, rfl⟩⟩
/-- A frame is placed by displacing the ANNOUNCE. -/
theorem announceLine_placed (s : State) (f : OutFrame) :
    (announceLine s).Placed f
      (((announceLine s).setOutbound (List.replicate 15 haltPlace ++ [{ frame := f, sent := 0 }])).displaced 5 1730) :=
  .inr ⟨Nat.le_refl 16, [], announcePlace 5 1730, List.replicate 15 haltPlace, 5, 1730, rfl, rfl, nofun, nofun, rfl⟩
theorem fullLine_noPlace (s : State) : (fullLine s).NoPlace := ⟨Nat.le_refl 16, rfl⟩
theorem fullLine_notWaiting (s : State) (c : Nat) : (fullLine s).NotWaiting c := fun _ h => nomatch h

def queuedTrain : Train :=
  { Train.empty with
    state := .queued, head := some 0, occupied := [0], move := some { route := [0, 1], next := 1 }
    prior := some .stored }
def resting : State := { tables with yard := { Yard.reset with trains := [(3, queuedTrain)], moves := [3] } }

theorem witness_FloorResetBringsThePartToRest :
    resting.Ready .sup ∧ resting.TablesWf ∧ (∀ c, c < 6 → (resting.clock c).set.autoAdvance = false) ∧
    (resting.train 3).state = .queued ∧ (resting.train 3).prior = some .stored ∧
    (underWay.train 63).state = .moving ∧ (underWay.seg 1).state = .reserved 63 ∧
    (underWay.seg 2).state = .fault (some 63) ∧ (tables.lot 1730).map (·.state) = some .onClock ∧
    ((presenting []).train 63).state = .presenting ∧ ((presenting []).train 63).clock = some 5 ∧
    (State.reset.train 63).state ≠ .presenting :=
  ⟨⟨rfl, rfl⟩, { tables_wf with segs := by decide, trains := by decide, windows := by decide }, by decide, by decide,
    by decide, by decide, by decide, by decide, by decide, by decide, by decide, by decide⟩

def oneClock (c : Nat) (k : Clock) : State := { State.reset with clocks := [(c, k)] }
def clockIn (q : ClockState) : Clock := { Clock.reset with state := q }

theorem witness_ClockSettingsAndModeAreStored :
    State.reset.Ready .auc ∧ (State.reset.clock 5).state = .idle ∧ ((oneClock 5 (clockIn .loaded)).clock 5).state = .loaded ∧
    ((oneClock 5 (clockIn .paused)).clock 5).state ≠ .idle ∧ (State.reset.clock 5).rehearsal = false ∧
    (oneClock 5 (clockIn .paused)).Ready .auc := ⟨reset_ready _, by decide, by decide, by decide, by decide, ⟨rfl, rfl⟩⟩

def announcedLot : LotRec := { lot1730 with state := .announced, clock := some 5 }
def entry1730 (age : Nat) : QEntry := { lot := 1730, origin := .train, announce := some { time := 1, age := age } }
/-- Lot 1730 at the head of clock 5's queue. -/
def headLot (r : LotRec) : State := { oneLot r with pres := [(5, { Pres.reset with queue := [entry1730 0] })] }

/-- Clock 5 with lot 1730, used plus reserved 8191, and the current lot announced `age` ms ago. -/
def ready5 (k : Clock) (age : Nat) (pend : Option PendKind) : State :=
  let c : ValuesCopy := { values := { used := 8191, reserved := 0, newest := some 9000, oldestPlace := 5 }, found := none }
  { oneLot { lot1730 with clock := some 5 } with
    journal := { copy1 := c, copy2 := c, places := [] }, clocks := [(5, { k with lot := some 1730 })]
    pres := [(5, { Pres.reset with current := some { time := 1, age := age }, pending := pend })] }

/-- Clock 5 has loaded lot 1730 and not run it. -/
def loaded5 (a : Option Announce) : State :=
  { ready5 (clockIn .loaded) 0 none with pres := [(5, { Pres.reset with current := a, unrun := true })] }
/-- Lot 1730 heads the queue of clock 5, not announced, with the rotation at clock 5. -/
def unannounced : State :=
  { oneLot queuedLot with
    rotation := 5, pres := [(5, { Pres.reset with queue := [{ lot := 1730, origin := .train, announce := none }] })] }
/-- Clock 5 advances by itself to the announced head. -/
def auto5 (start : Bool) : State :=
  { headLot announcedLot with
    clocks := [(5, { Clock.reset with set := { Settings.default with autoAdvance := true, autoStart := start } })] }

theorem witness_ClockLoadTakesTheHeadLot :
    ((headLot announcedLot).Ready .auc ∧ ((headLot announcedLot).clock 5).rehearsal = false ∧
      ((headLot announcedLot).clock 5).state = .idle ∧ ((headLot announcedLot).presOf 5).queue = [entry1730 0] ∧
      (headLot announcedLot).lot 1730 = some announcedLot ∧ announcedLot.state = .announced ∧
      (headLot queuedLot).lot 1730 = some queuedLot ∧ queuedLot.state ≠ .announced ∧
      (State.reset.presOf 5).queue = [] ∧ ((oneClock 5 { Clock.reset with rehearsal := true }).clock 5).rehearsal = true) ∧
    (((presenting [1730]).presOf 5).train = some 63 ∧ ((presenting [1730]).train 63).lots.Nodup ∧
      (presenting [1730]).lotIs 1730 .onTrain = true ∧ (State.reset.presOf 5).train = none) ∧
    ((loaded5 none).dueOf 5 = some (0, 1730) ∧ ((loaded5 none).clock 5).lot = some 1730 ∧
      ((loaded5 none).presOf 5).unrun = true ∧ (headLot announcedLot).dueOf 5 = none ∧
      (unannounced.rotation = 5 ∧ unannounced.dueOf 5 = some (1, 1730) ∧ unannounced.presentationWaits = false)) ∧
    ((headLot announcedLot).clock 5).set.autoAdvance = false ∧
    ((auto5 true).clock 5).set.autoAdvance = true ∧ (auto5 true).lotIs 1730 .announced = true ∧
    (unannounced.lotIs 1730 .announced = false) ∧
    (announcedLot.clock = some 5 ∧ (loaded5 none).lot 1730 = some { lot1730 with clock := some 5 } ∧
      (∀ r, State.reset.lot 1730 = some r → r.state ≠ .announced ∧ r.state ≠ .onClock)) ∧
    (ready5 (clockIn .loaded) 3000 (some .manual)).startDue 5 = true ∧
    (ready5 (clockIn .loaded) 2999 (some .manual)).startDue 5 = false ∧
    ((after (.clockLoad .auc 1 5) (headLot announcedLot)).clock 5).lot = some 1730 :=
  ⟨⟨⟨rfl, rfl⟩, by decide⟩, by decide, by decide, by decide, by decide, by decide, by decide, by decide, by decide,
    by decide, by decide⟩

theorem witness_RunsBegin :
    ((ready5 (clockIn .loaded) 3000 none).power.monitor = .normal ∧
      (ready5 (clockIn .loaded) 3000 none).line.outbound.length < 16 ∧
      (ready5 (clockIn .loaded) 3000 none).lot 1730 = some { lot1730 with clock := some 5 } ∧
      (ready5 (clockIn .loaded) 3000 none).values.used + (ready5 (clockIn .loaded) 3000 none).values.reserved < 8192 ∧
      ((ready5 (clockIn .loaded) 3000 none).clock 5).state = .loaded ∧ (clockIn .loaded).waitBegin = none ∧
      ((ready5 (clockIn .loaded) 3000 none).port .auc).xfer = none ∧ (clockIn .loaded).set.lead ≤ 3000) ∧
    (ready5 (clockIn .loaded) 3000 none).CanReserve 5 ∧ (fullJournal.CanReserve 3 ∧ ¬ fullJournal.CanReserve 5) ∧
    ((ready5 { clockIn .paused with nextStart := some 7 } 0 none).clock 5).nextStart = some 7 ∧
    (ready5 (clockIn .loaded) 3000 (some .manual)).startDue 5 = true ∧
    ((ready5 { clockIn .restartWait with nextStart := some 7, timer := some 0 } 0 none).clock 5).timer = some 0 ∧
    ((oneClock 5 { Clock.reset with rehearsal := true }).clock 5).state = .idle ∧
    (oneClock 5 { Clock.reset with rehearsal := true }).power.monitor = .normal ∧
    ((after (.clockStart .auc 1 5) (ready5 (clockIn .loaded) 3000 none)).flag .fin 1).detail = .number 0 :=
  ⟨by decide, .inr (by decide), ⟨.inl rfl, fun h => h.elim (fun h => nomatch h) (by decide)⟩, by decide, by decide,
    by decide, by decide, by decide, by decide⟩

def lowPart (s : State) : State := { s with power := { s.power with monitor := .low, level := .belowWarn } }

/-- The same clock with no journal entry free, its pending start due. -/
def full5 (k : Clock) : State :=
  let c : ValuesCopy := { values := { used := 8192, reserved := 0, newest := some 9000, oldestPlace := 5 }, found := none }
  { ready5 k 3000 (some .manual) with journal := { copy1 := c, copy2 := c, places := [] } }
/-- A clock whose begin of each kind waits for a place. -/
def waiting5 (kind : BeginKind) : Clock :=
  { clockIn (match kind with
      | .startCommand | .startPending => .loaded
      | .resume => .paused
      | .restart => .restartWait
      | .rehearsal => .idle) with
    waitBegin := some { kind := kind, start := 0 }, nextStart := some 0, rehearsal := kind == .rehearsal }

theorem witness_BeginsThatMayNotBeginYet :
    ((lowPart (ready5 (clockIn .loaded) 3000 (some .auto))).power.monitor = .low ∧
      (lowPart (ready5 (clockIn .loaded) 3000 (some .auto))).startDue 5 = true ∧
      ((lowPart (ready5 (clockIn .loaded) 3000 none)).clock 5).state = .loaded ∧
      ((lowPart (ready5 (clockIn .paused) 0 none)).clock 5).state = .paused ∧
      ((lowPart (oneClock 5 { Clock.reset with rehearsal := true })).clock 5).rehearsal = true) ∧
    ((lowPart (ready5 { clockIn .restartWait with nextStart := some 7, timer := some 0 } 0 none)).clock 5).nextStart =
      some 7 ∧
    (((ready5 (clockIn .loaded) 2999 none).presOf 5).current = some { time := 1, age := 2999 } ∧
      2999 < ((ready5 (clockIn .loaded) 2999 none).clock 5).set.lead) ∧
    (ready5 (clockIn .loaded) 2999 none).CanReserve 5 ∧
    ((full5 (clockIn .loaded)).power.monitor = .normal ∧ ((full5 (clockIn .loaded)).clock 5).reserved = false ∧
      8192 ≤ (full5 (clockIn .loaded)).values.used + (full5 (clockIn .loaded)).values.reserved ∧
      (full5 (clockIn .loaded)).startDue 5 = true) ∧
    (16 ≤ (fullLine (ready5 (clockIn .loaded) 3000 none)).line.outbound.length ∧
      (fullLine (ready5 (clockIn .loaded) 3000 none)).NotWaiting 5) ∧
    (fullLine (ready5 (clockIn .loaded) 3000 (some .manual))).startDue 5 = true ∧
    (∀ kind, ((ready5 (waiting5 kind) 0 none).clock 5).waitBegin = some { kind := kind, start := 0 } ∧
      ((ready5 (waiting5 kind) 0 none).clock 5).waitHalt = none ∧ ((lowPart (ready5 (waiting5 kind) 0 none)).clock 5).waitBegin ≠ none ∧
      ((full5 (waiting5 kind)).clock 5).waitBegin ≠ none) :=
  ⟨by decide, by decide, by decide, .inr (by decide), by decide, ⟨Nat.le_refl 16, fullLine_notWaiting _ _⟩, by decide,
    fun kind => by cases kind <;> decide⟩

/-- Clock 3 with a halt that waits, and its candidate. -/
def halting (reason : HaltReason) (w : Option Winner) : Clock :=
  { clock3 with
    waitHalt := some { reason := reason, position := 12, cause := some .supply, candidate := w, replaced := none }
    timer := none }

theorem witness_ClockPauseActsByTheState :
    (∀ q, (oneClock 5 (clockIn q)).Ready .auc ∧ ((oneClock 5 (clockIn q)).clock 5).state = q ∧
      (clockIn q).waitBegin = none ∧ (clockIn q).rehearsalRun = false) ∧
    (∀ kind, (oneClock 5 (waiting5 kind)).Ready .auc ∧ ((oneClock 5 (waiting5 kind)).clock 5).waitBegin ≠ none) ∧
    ((floor clock3 []).Ready .auc ∧ ((floor clock3 []).clock 3).position = some 12 ∧
      ((floor clock3 []).clock 3).waitHalt = none ∧ (floor clock3 []).line.outbound.length < 16) ∧
    ((∃ v, (floor clock3 []).HaltPlaced 3 .pause 12 v) ∧ (∃ v, (announceLine (floor clock3 [])).HaltPlaced 3 .pause 12 v) ∧
      (fullLine (floor clock3 [])).NoPlace ∧ (fullLine (floor clock3 [])).NotWaiting 3) ∧
    (∀ reason, ((floor (halting reason none) []).clock 3).waitHalt.map (·.reason) = some reason ∧
      ((floor (halting reason none) []).clock 3).waitHalt.bind (·.cause) = some .supply ∧
      ((floor (halting reason none) []).clock 3).position = some 12) := by
  refine ⟨fun q => ⟨⟨rfl, rfl⟩, ?_, rfl, rfl⟩, fun kind => ⟨⟨rfl, rfl⟩, ?_⟩, ⟨⟨rfl, rfl⟩, by decide, by decide, by decide⟩,
    ⟨room_placed _ _ (by decide), ⟨_, announceLine_placed _ _⟩, fullLine_noPlace _, fullLine_notWaiting _ _⟩,
    fun reason => ?_⟩
  · cases q <;> decide
  · cases kind <;> decide
  · cases reason <;> decide

theorem witness_ClockSkipClosesTheLot :
    (ready5 (clockIn .paused) 0 none).Ready .auc ∧ ((ready5 (clockIn .paused) 0 none).clock 5).state = .paused ∧
    ((ready5 (clockIn .loaded) 0 none).clock 5).state = .loaded ∧
    ((ready5 (clockIn .loaded) 0 none).clock 5).lot = some 1730 ∧
    (ready5 (clockIn .loaded) 0 none).lot 1730 = some { lot1730 with clock := some 5 } ∧
    (∀ q, (oneClock 5 (clockIn q)).Ready .auc ∧ ((oneClock 5 (clockIn q)).clock 5).state = q) :=
  ⟨⟨rfl, rfl⟩, by decide, by decide, by decide, by decide, fun q => ⟨⟨rfl, rfl⟩, by cases q <;> decide⟩⟩

/-- The sold floor with clock 3 and lot 1730 as given. -/
def voiding (k : Clock) (r : LotRec) : State :=
  ((sold.setClock 3 { k with lastSold := some 1730 }).setLot 1730 (some r))
/-- What VOID_LAST answers there. -/
def voidCode (s : State) : Option ReplyCode := (((after (.voidLast .auc 1 3) s).port .auc).slot).map (·.code)
def soldOn : LotRec := { lot1730 with remaining := 0, purchases := partSold.purchases, train := some 63 }
def noneFree (s : State) : State :=
  let c : ValuesCopy := { values := { used := 8191, reserved := 1, newest := some 9000, oldestPlace := 5 }, found := none }
  { s with journal := { copy1 := c, copy2 := c, places := [] } }
/-- Train 63 is PRESENTING to clock 3. -/
def presents (s : State) : State :=
  s.setTrain 63 { Train.empty with state := .presenting, lots := [1730], head := some 0, occupied := [0], clock := some 3 }

/-- Each refusal of R112, at a state that no case before it refuses. -/
theorem test_void_refusals :
    (∀ q ∈ [ClockState.running, .settling, .held], voidCode (voiding (clockIn q) soldOn) = some .wrongState) ∧
    voidCode State.reset = some .empty ∧ voidCode ((voiding (clockIn .paused) soldOn).setLot 1730 none) = some .wrongState ∧
    voidCode (voiding (clockIn .idle) soldOn) = some .wrongState ∧
    voidCode (presents (voiding (clockIn .idle) { soldOn with purchases := [] })) = some .empty ∧
    voidCode (voiding (clockIn .paused) { soldOn with state := .queued }) = some .wrongState ∧
    voidCode (voiding (clockIn .paused) { soldOn with clock := some 4 }) = some .wrongState ∧
    voidCode ((voiding (clockIn .paused) soldOn).setAcct 512 Account.vacant) = some .wrongState ∧
    voidCode (noneFree (voiding (clockIn .paused) soldOn)) = some .journalFull ∧
    voidCode ((presents (voiding { clockIn .loaded with lot := some 9 } soldOn)).setPres 3
      { Pres.reset with queue := entry8 }) = some .full := by decide +kernel

/-- The PAUSED clock whose sold lot was bought by an account that is now DAMAGED. -/
def damagedBuyer : State :=
  let s := voiding (clockIn .paused) soldOn
  s.setAcct 512 { s.acct 512 with state := .damaged }

/-- R137: a DAMAGED account is booked nothing. The void is taken and the account stays as it is; a purchase would release
the hold and leave the open amount. -/
theorem test_damaged_account_is_booked_nothing :
    voidCode damagedBuyer = some .ok ∧ (after (.voidLast .auc 1 3) damagedBuyer).acct 512 = damagedBuyer.acct 512 ∧
    ((after (.voidLast .auc 1 3) damagedBuyer).lot 1730).map (·.remaining) = some 240 ∧
    (damagedBuyer.bookPurchase 512 0 85249 641).acct 512 = damagedBuyer.acct 512 := by decide +kernel

theorem witness_VoidLastTakesTheSaleBack :
    sold.Ready .auc ∧ (sold.clock 3).state = .restartWait ∧ (sold.clock 3).lastSold = some 1730 ∧
    (∃ r p, sold.lot 1730 = some r ∧ r.purchases.getLast? = some p ∧ r.state = .onClock ∧ r.clock = some 3 ∧
      (sold.acct p.buyer).state ≠ .vacant) ∧ sold.values.used + sold.values.reserved < 8192 :=
  ⟨⟨by decide, by decide⟩, by decide, by decide, ⟨_, _, rfl, rfl, by decide, by decide, by decide⟩, by decide⟩

/-- Clock 3 in a rehearsal run, and the same run in its settle window. -/
def rehearsing : Clock := { clock3 with rehearsal := true, rehearsalRun := true, lot := none, reserved := false }
def rehearsed3 : Clock :=
  { rehearsing with state := .settling, winner := some { winner42 with buyer := none, hold := 0 }, timer := some 0 }

theorem witness_RehearsalResponsesAreClearedAndReported :
    ((oneClock 5 { Clock.reset with responses := List.range 60 }).Ready .auc ∧
      ((oneClock 5 { Clock.reset with responses := List.range 60 }).clock 5).responses.length ≤ 60 ∧
      60 < ((oneClock 5 { Clock.reset with responses := List.range 61 }).clock 5).responses.length) ∧
    ((floor rehearsing [stopFrame 118 13]).isOn = true ∧
      (floor rehearsing [stopFrame 118 13]).line.inbound = [stopFrame 118 13] ∧
      readDesk (stopFrame 118 13) = .stop 3 13 118 ((floor rehearsing []).clock 3).tag ∧
      ((floor rehearsing []).clock 3).rehearsalRun = true ∧ ((floor rehearsing []).clock 3).state = .running ∧
      ((floor rehearsing []).clock 3).position = some 12 ∧ 12 ≤ min 13 12 + rehearsing.set.grace ∧
      (floor rehearsing []).line.outbound.length < 16 ∧ (floor rehearsing []).Ready .auc) ∧
    ((floor rehearsed3 []).clock 3).winner = some { winner42 with buyer := none, hold := 0 } ∧
    ((∀ f, ∃ v, (floor rehearsing []).Placed f v) ∧ ∀ f, ∃ v, (announceLine (floor rehearsed3 [])).Placed f v) ∧
    (((floor rehearsed3 []).clock 3).state = .settling ∧ ((floor rehearsed3 []).clock 3).timer = some 0 ∧
      11 ≤ min 11 12 ∧ min 10 12 < 11 ∧ rehearsed3.waitHalt = none ∧ rehearsed3.waitBegin = none) ∧
    ((fullLine (floor rehearsed3 [])).NoPlace ∧ (fullLine (floor rehearsed3 [])).NotWaiting 3) ∧
    (380 < 200 + (60 + 1) * 3 ∧
      ((floor { rehearsing with position := some 60, timer := some 0 } []).clock 3).position = some 60) ∧
    (∀ reason, let k := { halting reason (some winner42) with rehearsalRun := true }
      ((floor k []).clock 3).rehearsalRun = true ∧ ((floor k []).clock 3).waitHalt.map (·.reason) = some reason ∧
      ((floor k []).clock 3).waitHalt.bind (·.candidate) = some winner42) ∧
    ((after (.settleExpiry 3) (floor rehearsed3 [])).clock 3).state = .idle ∧
    told (after (.settleExpiry 3) (floor rehearsed3 [])) = [(42, .won)] ∧
    ((after .stop (floor rehearsing [stopFrame 118 13])).clock 3).responses = [118] :=
  ⟨⟨⟨rfl, rfl⟩, by decide, by decide⟩, ⟨by decide, by decide, by decide, by decide, by decide, by decide, by decide, by decide,
    ⟨rfl, rfl⟩⟩, by decide, ⟨fun f => room_placed _ f (by decide), fun f => ⟨_, announceLine_placed _ f⟩⟩, by decide,
    ⟨fullLine_noPlace _, fullLine_notWaiting _ _⟩, by decide,
    fun reason => by cases reason <;> decide, by decide, by decide, by decide⟩

def twelve : List Nat := List.range 12
def lotsAndStore : State :=
  { yardWith [(127, seg .store [] .free)] [] [] with
    lots := twelve.map fun k => (k, { lot := some registered, found := none }) }
def storedTrain (lots : List Nat) : Train :=
  { Train.empty with state := .stored, lots := lots, head := some 127, occupied := [127] }

/-- What TRAIN_FORM of train 63 answers, with its reply fields. -/
def formed (s : State) (g : Nat) (l : List Nat) : Option (ReplyCode × List Byte) :=
  (((after (.trainForm .yrd 1 63 g l) s).port .yrd).slot).map fun r => (r.code, r.fields)

/-- Each refusal of R25; the one for lots names the first lot in train order that failed. -/
theorem test_form_refusals :
    formed (lotsAndStore.setTrain 63 (storedTrain [])) 127 [1] = some (.wrongState, []) ∧
    formed lotsAndStore 126 [1] = some (.wrongState, []) ∧
    formed (lotsAndStore.setSeg 127 (seg .track [] .free)) 127 [1] = some (.wrongState, []) ∧
    formed lotsAndStore 127 [] = some (.wrongState, []) ∧ formed lotsAndStore 127 (List.range 13) = some (.wrongState, []) ∧
    formed lotsAndStore 127 [1, 1] = some (.wrongState, []) ∧
    formed (lotsAndStore.setLot 5 (some queuedLot)) 127 [1, 256, 5] = some (.wrongState, [1#8, 0#8]) := by decide

theorem witness_TrainsAreFormedAndDisbanded :
    (∀ r, lotsAndStore.lot 256 = some r → r.state ≠ .registered) ∧
    lotsAndStore.Ready .yrd ∧ (lotsAndStore.train 63).state = .empty ∧ (lotsAndStore.seg 127).state = .free ∧
    (lotsAndStore.seg 127).layout = some (layout .store []) ∧ twelve.length = 12 ∧ twelve.Nodup ∧
    (∀ k ∈ twelve, lotsAndStore.lot k = some registered) ∧
    ((yardWith [] [(63, storedTrain [])] []).train 63).state = .stored ∧
    (storedTrain []).lots.all (yardWith [] [(63, storedTrain [])] []).lotClosed = true ∧
    (storedTrain [9]).lots.all (yardWith [] [(63, storedTrain [9])] []).lotClosed = false :=
  ⟨by decide, ⟨rfl, rfl⟩, by decide, by decide, by decide, by decide, by decide, by decide, by decide, by decide, by decide⟩

/-- Segments 0 to 16, each followed by the next. -/
def chain : Tab Segment := (List.range 17).map fun g => (g, seg .track [g + 1] .free)
def atZero : Train := { Train.empty with state := .stored, head := some 0, occupied := [0] }
def chained (moves : List Nat) : State := yardWith chain [(63, atZero)] moves

/-- Segment 0 alone is defined, with segment 1 in its successor list. -/
def toUndefined : State := yardWith [(0, seg .track [1] .free)] [(63, atZero)] []

theorem witness_TrainMoveJoinsTheMoveQueue :
    ((chained []).Ready .yrd ∧ (∀ g ∈ List.range 16, g < 128) ∧ ((chained []).train 63).state = .stored ∧
      ((chained []).train 63).head = (List.range 16).head? ∧ (chained []).follows (List.range 16) = true ∧
      (List.range 16).Nodup ∧ ∀ g ∈ List.range 16, ((chained []).seg g).layout ≠ none) ∧
    ((chained []).follows [0, 1] = true ∧ (chained (List.range 15)).yard.moves.length < 16 ∧
      16 ≤ (chained (List.range 16)).yard.moves.length ∧ ¬ 2 ≤ [0].length ∧ ¬ (List.range 17).length ≤ 16) ∧
    ((chained []).follows [0, 1, 2, 3] = true ∧ (toUndefined.follows [0, 1] = true ∧ (toUndefined.seg 1).layout = none)) ∧
    ((yardWith [] [(63, { atZero with state := .presenting })] []).train 63).state = .presenting ∧
    ((chained []).train 62).state = .empty :=
  ⟨⟨⟨rfl, rfl⟩, by decide, by decide, by decide, by decide, by decide, by decide⟩, by decide, by decide, by decide,
    by decide⟩

/-- Moves of trains 2 and 3 wait; the way of train 2 is not free. -/
def twoMoves : State :=
  yardWith [(0, seg .store [1] (.occupied 3)), (1, seg .track [] .free), (5, seg .store [6] (.occupied 2)),
      (6, seg .track [] (.occupied 9))]
    [(2, { queuedTrain with move := some { route := [5, 6], next := 1 } }), (3, queuedTrain)] [2, 3]

theorem witness_OldestEligibleMoveLaunches :
    twoMoves.yard.moves = [2] ++ 3 :: [] ∧ (∀ m ∈ [2], twoMoves.eligible m = false) ∧ twoMoves.eligible 3 = true ∧
    3 ∉ [2] ∧ (twoMoves.route 3).head? = some 0 ∧ twoMoves.route 3 = [0, 1] ∧ twoMoves.route 4 = [] ∧
    (twoMoves.setWindow 3 (List.replicate 3 { time := 0, age := 0 })).eligible 3 = true ∧
    (twoMoves.setWindow 3 (List.replicate 4 { time := 0, age := 0 })).eligible 3 = false ∧
    (twoMoves.setSegState 0 (.fault none)).eligible 3 = false ∧ (lowPart twoMoves).eligible 3 = false := by decide

theorem witness_MoveRetryResumesATransitStall :
    (yardWith [] [(63, { moving with state := .stalled, cause := some .transit })] []).Ready .yrd ∧
    ((yardWith [] [(63, { moving with state := .stalled, cause := some .transit })] []).train 63).cause = some .transit ∧
    ((yardWith [] [(63, { moving with state := .stalled, cause := some .order })] []).train 63).cause ≠ some .transit :=
  ⟨⟨rfl, rfl⟩, by decide, by decide⟩

theorem witness_MoveCancelEndsTheMove :
    underWay.Ready .yrd ∧ (underWay.train 63).state = .moving ∧ underWay.TablesWf ∧
    (underWay.seg 1).state = .reserved 63 ∧ (underWay.seg 2).state = .fault (some 63) ∧
    (twoMoves.train 3).state = .queued ∧ (twoMoves.train 3).prior = some .stored ∧ twoMoves.Ready .yrd ∧
    (State.reset.train 63).state = .empty :=
  ⟨⟨rfl, rfl⟩, by decide,
    ⟨by decide, by decide, by decide, by decide, by decide, by decide, by decide, by decide, by decide, by decide, by decide,
      fun p => by cases p <;> decide⟩, by decide, by decide, by decide, by decide, ⟨rfl, rfl⟩, by decide⟩

theorem witness_InvoiceCloseBillsTheOpenAmount :
    (oneAccount (buyer 1 9 5 0 0 1)).Ready .fin ∧ ((oneAccount (buyer 1 9 5 0 0 1)).acct 1023).state = .active ∧
    (State.reset.acct 1023).state = .vacant := ⟨⟨rfl, rfl⟩, by decide, by decide⟩

def walk (next : Nat) : Xfer := { kind := .closeAll, expected := none, done := 7, next := next }

theorem witness_InvoiceWalkJudgesEachAccount :
    State.reset.Ready .fin ∧ ((withXfer .fin (walk 1022)).port .fin).xfer = some (walk 1022) ∧
    ((withXfer .fin (walk 1023)).port .fin).xfer = some (walk 1023) ∧ (walk 1023).kind = .closeAll ∧
    ((oneAccount (buyer 1 9 5 0 0 1)).acct 1023).openAmt ≠ 0 ∧ (withXfer .fin (walk 1023)).isOn = true :=
  ⟨reset_ready _, by decide, by decide, rfl, by decide, by decide⟩

theorem witness_PaymentLowersTheBilledAmount :
    (oneAccount (buyer 1 9 5 0 0 1)).Ready .fin ∧ ((oneAccount (buyer 1 9 5 0 0 1)).acct 1023).state = .active ∧
    (State.reset.acct 1023).state = .vacant := ⟨⟨rfl, rfl⟩, by decide, by decide⟩

theorem witness_JournalIsReadAndReleased :
    journalled.Ready .fin ∧ journalled.values.used ≤ 8192 ∧ journalled.values.newest = some 9 ∧
    journalled.values.ahead 10 = true ∧ journalled.values.ahead 9 = false ∧ journalled.values.holds 9 = true ∧
    journalled.place (journalled.values.placeOf 9) = some oneEntry ∧ journalled.values.ahead 8 = false ∧
    journalled.values.holds 8 = false ∧ State.reset.values.used = 0 :=
  ⟨⟨rfl, rfl⟩, by decide, by decide, by decide, by decide, by decide, by decide, by decide, by decide, by decide⟩

theorem witness_ReadsChangeNothingButTheReply :
    State.reset.Ready .yrd ∧ portOfCode 3 = some .fin ∧
    ((yardWith [] [(63, { atZero with state := .cleared })] []).train 63).state = .cleared ∧
    (State.reset.train 63).state ≠ .cleared := ⟨reset_ready _, rfl, by decide, by decide⟩

theorem witness_NoticeTakeReturnsTheHighestClass :
    State.reset.Ready .sup ∧ (State.reset.flag .sup 2).pending = true ∧ State.reset.enabled .sup 2 = true ∧
    (State.reset.flag .sup 1).pending = false ∧ State.reset.Ready .fin ∧
    ∀ k, k ≤ 4 → (State.reset.flag .fin k).pending = false :=
  ⟨reset_ready _, by decide, by decide, by decide, reset_ready _, by decide⟩

theorem witness_NoticeMaskAndRaise :
    State.reset.Ready .auc ∧ Notice.priority .journalLow .auc = 5 ∧ Notice.priority .commandAborted .sup = 6 :=
  ⟨reset_ready _, rfl, rfl⟩

/-- Segment 0 is OCCUPIED and leads to 1; a move of train 3 from 0 to 1 waits, whose way is not free. -/
def laidOut : State :=
  yardWith [(0, seg .store [1] (.occupied 3)), (1, seg (.present 5) [] (.occupied 9))] [(3, queuedTrain)] [3]
def rewritten (edge : Nat) : SegFields :=
  { segment := 0, kind := 0, param := 9, succ := [2, 0, 2], group := 3, edge := edge, filter := 300 }

/-- The record of segment 0 is stored cleaned and clamped, and the move that it breaks is dropped (R21). -/
theorem test_layout_record :
    (laidOut.writeSegment (rewritten 0)).code = .ok ∧
    (laidOut.writeSegment (rewritten 0)).fields =
      [0#8, 0#8, 0#8, 0#8, 0#8, 2#8, 0xFF#8, 0xFF#8, 0xFF#8, 0xFF#8, 3#8, 0#8, 255#8, 1#8] ∧
    ((laidOut.writeSegment (rewritten 0)).state.train 3).state = .stored ∧
    ((laidOut.writeSegment (rewritten 0)).state.flag .yrd 2).detail = .number 3 := by decide

/-- Each refusal of a segment record, at a state that no check before it refuses. -/
theorem witness_DataDoesTheNextUnit_segments :
    underWay.underWay = true ∧ laidOut.underWay = false ∧
    (¬ (({ rewritten 0 with segment := 128 } : SegFields).segment < 128)) ∧ ((rewritten 0).segment < 128 ∧ ∀ h ∈ (rewritten 0).succ, h < 128) ∧
    ((laidOut.writeSegment { rewritten 0 with kind := 6 }).code = .wrongState ∧
      (laidOut.writeSegment { rewritten 0 with segment := 7, kind := 3, param := 6 }).code = .wrongState ∧
      (laidOut.writeSegment { rewritten 0 with segment := 7, kind := 4, param := 32 }).code = .wrongState ∧
      (laidOut.writeSegment { rewritten 0 with group := 4 }).code = .wrongState ∧
      (laidOut.writeSegment (rewritten 2)).code = .wrongState) ∧
    ((laidOut.writeSegment { rewritten 0 with segment := 7, kind := 3, param := 5 }).code = .wrongState ∧
      (laidOut.writeSegment { rewritten 0 with segment := 7, kind := 3, param := 4 }).code = .ok) ∧
    ((laidOut.writeSegment (rewritten 1)).code = .wrongState ∧
      (laidOut.writeSegment { rewritten 0 with kind := 2 }).code = .wrongState) := by decide

theorem witness_DataDoesTheNextUnit :
    State.reset.isOn = true ∧ (State.reset.port .fin).xfer = none ∧ ((withXfer .sup transfer).port .sup).xfer = some transfer ∧
    transfer.kind = .lotWrite ∧ transfer.expected = some (transfer.done + 1) ∧
    ((withXfer .auc { transfer with kind := .report 5, done := 1 }).port .auc).xfer =
      some { transfer with kind := .report 5, done := 1 } ∧
    ((withXfer .sup { transfer with kind := .layoutWrite }).port .sup).xfer = some { transfer with kind := .layoutWrite } ∧
    ((withXfer .fin (walk 9)).port .fin).xfer = some (walk 9) := by decide

/-- STATUS_ASK from desk 511. -/
def askFrame : WireFrame :=
  { cls := 3, arb := 0, source := 511, length := 1, payload := [0x33#8]
    check := crc8 (frameBits 3 0 511 1 [0x33#8]) }

theorem witness_DeskFramesAreQueuedAndAcknowledged :
    State.reset.isOn = true ∧ deskGood askFrame = true ∧ deskGood { askFrame with source := 0 } = false ∧
    State.reset.line.inbound.length < 32 ∧ 32 ≤ crowded.line.inbound.length ∧ crowded.isOn = true ∧
    readDesk { cls := 3, arb := 0, source := 1, payload := [] } = .malformed :=
  ⟨rfl, by decide +kernel, by decide +kernel, by decide, by decide, rfl, rfl⟩

/-- The candidate of desk 118's stop, without a hold. -/
def candidate118 : Winner := { desk := 118, buyer := some 305, position := 12, price := 344, hold := 0, given := none }

theorem witness_StopsTakeTheClock :
    ((floor clock3 [stopFrame 118 13]).isOn = true ∧ (floor clock3 [stopFrame 118 13]).line.inbound = [stopFrame 118 13] ∧
      readDesk (stopFrame 118 13) = .stop 3 13 118 clock3.tag ∧ (floor clock3 []).clock 3 = clock3 ∧
      clock3.rehearsalRun = false ∧ clock3.position = some 12 ∧ 12 ≤ min 13 12 + clock3.set.grace ∧
      clock3.lot = some 1730 ∧ (floor clock3 []).lot 1730 = some lot1730 ∧ ((floor clock3 []).desk 118).buyer = some 305 ∧
      ((floor clock3 []).acct 305).state = .active ∧ ((floor clock3 []).acct 305).isOver = false ∧
      creditPasses ((floor clock3 []).acct 305) 28173 = true ∧ clock3.state = .running ∧ clock3.waitHalt = none) ∧
    ((stopped.clock 3).state = .settling ∧ readDesk (stopFrame 42 11) = .stop 3 11 42 (stopped.clock 3).tag ∧
      stopped.line.inbound = [stopFrame 42 11, stopFrame 300 10] ∧ (stopped.clock 3).position = some 12 ∧
      12 ≤ min 11 12 + (stopped.clock 3).set.grace ∧ (stopped.desk 42).buyer = some 512 ∧
      creditPasses (stopped.acct 512) 28416 = true) ∧
    ((fullLine (floor clock3 [stopFrame 118 13])).NoPlace ∧
      ∀ reason w, ((floor (halting reason w) []).clock 3).waitHalt.map (·.reason) = some reason ∧
        ((floor (halting reason w) []).clock 3).waitHalt.bind (·.candidate) = w ∧ (halting reason w).state = .running ∧
        (halting reason w).waitHalt.bind (·.cause) = some .supply) ∧
    (candidate118.desk ≠ 42 ∧ 11 < candidate118.position ∧ ((floor clock3 []).acct 305).heldAmt + 28173 ≤ 140737488355327) ∧
    ((after .stop (fullLine (floor clock3 [stopFrame 118 13]))).clock 3).waitHalt.bind (·.candidate) = some candidate118 ∧
    (((floor (halting .stop (some candidate118)) []).produce (.clock 3)).acct 305).heldAmt = 28173 ∧
    ((∃ v, (floor clock3 []).HaltPlaced 3 .stop 12 v) ∧ ∃ v, (announceLine (floor clock3 [])).HaltPlaced 3 .stop 12 v) ∧
    ((after .stop (announceLine (floor clock3 [stopFrame 118 13]))).clock 3).state = .settling :=
  ⟨by decide, by decide, ⟨fullLine_noPlace _, fun reason w => by cases reason <;> exact ⟨rfl, rfl, rfl, rfl⟩⟩, by decide,
    by decide, by decide, ⟨room_placed _ _ (by decide), ⟨_, announceLine_placed _ _⟩⟩, by decide⟩

/-- The floor of the example with the buyer of desk 118 in a state, with a limit. -/
def oneBuyer (q : AcctState) (limit : Int) : State :=
  (floor clock3 []).setAcct 305 { buyer 12 limit 0 0 1 118 with state := q }

theorem witness_StopsThatAreNotTaken :
    (readDesk (stopFrame 118 13) = .stop 3 13 118 41 ∧ (floor { clock3 with tag := 42 } [stopFrame 118 13]).isOn = true ∧
      ((floor { clock3 with tag := 42 } []).clock 3).tag ≠ 41 ∧ ((floor { clock3 with state := .idle } []).clock 3).state = .idle ∧
      ((floor held3 []).clock 3).state = .held ∧ ((floor { clock3 with state := .paused } []).clock 3).position = some 12 ∧
      min 10 12 + clock3.set.grace < 12 ∧ 12 ≤ min 11 12 + clock3.set.grace) ∧
    (∃ w, (stopped.clock 3).winner = some w ∧ w.desk ≠ 42 ∧ w.position ≤ min 12 12 ∧ min 11 12 < w.position) ∧
    ((floor (halting .stop (some candidate118)) []).clock 3).waitHalt.bind (·.candidate) = some candidate118 ∧
    ((floor clock3 []).StopFails 511 lot1730 344 .notSignedIn ∧ (oneBuyer .suspended 1).StopFails 118 lot1730 344 .suspended ∧
      (oneBuyer .active 28172).StopFails 118 lot1730 344 .credit ∧
      ¬ (oneBuyer .active 28173).StopFails 118 lot1730 344 .credit) ∧
    (∀ q, (halting .stop (some candidate118)).pausePending = false ∧
      (floor { halting .stop (some candidate118) with
        waitHalt := some { reason := .stop, position := 12, cause := none, candidate := some candidate118, replaced := q }
        pausePending := true, cause := some .supply } []).line.outbound.length < 16) := by
  refine ⟨by decide, ⟨_, rfl, by decide, by decide, by decide⟩, by decide, ⟨.inl (by decide), .inr ⟨305, by decide, ?_⟩,
    .inr ⟨305, by decide, ?_⟩, ?_⟩, fun q => ⟨rfl, Nat.zero_lt_succ _⟩⟩
  · exact .inl (by decide)
  · exact .inr ⟨by decide, rfl, .inr (by decide)⟩
  · rintro (h | ⟨b, h1, h | h⟩)
    · exact nomatch h.2
    · exact nomatch h.2
    · have h3 : (oneBuyer .active 28173).desk 118 = bound 305 := by decide
      rw [h3] at h1
      cases h1
      revert h
      decide

/-- A STOP and a QUANTITY for clock 6, and QUANTITY frames with another tag and after the quantity has been given. -/
def stopSix : DeskFrame := { stopFrame 42 11 with arb := BitVec.ofNat 16 (11 * 512 + 6 * 64) }
def quantitySix : DeskFrame := { quantityFrame 42 250 with arb := BitVec.ofNat 16 (6 * 8192) }
def quantityOf (s : State) : List (Nat × DeskCode) := told (after .quantity s)

theorem test_clock_six :
    readDesk stopSix = .stop 6 11 42 41 ∧ told (after .stop (floor clock3 [stopSix])) = [(42, .wrongRun)] ∧
    readDesk quantitySix = .quantity 6 42 41 (.stems 250) ∧ quantityOf (heldFloor [quantitySix]) = [(42, .wrongRun)] := by
  decide +kernel

/-- The cases of R106, in their order. -/
theorem test_quantity_refusals :
    quantityOf (floor { held3 with state := .settling } [quantityFrame 42 250]) = [(42, .notWinner)] ∧
    quantityOf (heldFloor [quantityFrame 118 250]) = [(118, .taken)] ∧
    quantityOf (floor { held3 with tag := 42 } [quantityFrame 42 250]) = [(42, .wrongRun)] ∧
    quantityOf (floor { held3 with winner := some { winner42 with given := some .takeAll } } [quantityFrame 42 250]) =
      [(42, .taken)] := by decide

/-- The winner's own stop, repeated at 11, is answered with 11 and its price, not with the 12 that it won at (R96,
R177). -/
theorem test_repeated_stop :
    ((after .stop { stopped with line := { stopped.line with inbound := [stopFrame 118 11] } }).line.outbound.map
      (·.frame)).drop 1 =
      [.reply 118 .accepted (some 3) 41 (.positionPrice (some 11) (some 347)), .halt 3 41 .stop 12 344] := by decide

theorem witness_FeesNetsAndFinalStems :
    0 < lot1730.unit ∧ 1 ≤ 347 ∧ 80 < 81 ∧ fitsRoom feeOne 347 (some 85249) (clampQuantity (.stems 250) lot1730) = true ∧
    fitsRoom feeOne 347 (some 85248) (clampQuantity (.stems 250) lot1730) = false ∧ (99999 : Nat) ≤ 99999 := by decide

theorem witness_QuantityAndHoldExpiryCommitTheSale :
    (tables.isOn = true ∧ (tables.clock 3).state = .held ∧ (tables.clock 3).winner = some winner42 ∧
      winner42.buyer = some 512 ∧ (tables.clock 3).lot = some 1730 ∧ tables.lot 1730 = some lot1730 ∧
      tables.line.outbound.length + 2 ≤ 16 ∧ tables.line.waits = []) ∧
    (winner42.given = none ∧ tables.line.inbound = [quantityFrame 42 250] ∧
      readDesk (quantityFrame 42 250) = .quantity 3 42 (tables.clock 3).tag (.stems 250) ∧ (tables.clock 3).timer = some 0) ∧
    (∀ f, (∃ v, tables.Placed f v) ∧ ∃ v, (announceLine tables).Placed f v) ∧
    (((after .quantity (announceLine tables)).lot 1730).map (·.remaining) = some 160 ∧
      (after .quantity (announceLine tables)).line.outbound.length = 16 ∧
      ((after .quantity (announceLine tables)).line.outbound.getLast?).map (·.frame) =
        some (.sale 3 41 false 42 11 347 240 1730 77 160)) ∧
    (fullLine tables).NoPlace ∧
    (let u := after .quantity (fullLine tables)
     (u.clock 3).winner = some { winner42 with given := some (.stems 250) } ∧ (u.clock 3).timer = none ∧
       (u.clock 3).waitHalt = none ∧ (u.clock 3).waitBegin = none ∧ u.line.waits = [{ who := .clock 3, kind := .sale }]) :=
  ⟨⟨rfl, by decide, by decide, rfl, by decide, by decide, by decide, rfl⟩,
    ⟨rfl, by decide +kernel, by decide +kernel, by decide⟩,
    fun f => ⟨room_placed _ f (by decide), ⟨_, announceLine_placed _ f⟩⟩, by decide +kernel, fullLine_noPlace _,
    by decide +kernel⟩

def deskFrame (kind : List Byte) : DeskFrame := { cls := 3, arb := 0, source := 42, payload := kind }

theorem witness_DesksSignInAndOut :
    (floor clock3 [deskFrame [0x31#8, 0#8, 0#8, 13#8]]).isOn = true ∧
    readDesk (deskFrame [0x31#8, 0#8, 0#8, 13#8]) = .signIn 42 13 ∧ readDesk (deskFrame [0x32#8]) = .signOut 42 ∧
    readDesk (deskFrame [0x33#8]) = .statusAsk 42 ∧ (floor clock3 []).findBadge 13 = some 512 ∧
    (floor clock3 []).findBadge 99 = none ∧ ((floor clock3 []).acct 512).state = .active ∧
    ((floor clock3 []).acct 512).desk = some 42 ∧ ((floor clock3 []).desk 42).buyer = some 512 ∧
    (floor clock3 []).findBadge 12 = some 305 ∧ ((floor clock3 []).acct 305).desk = some 118 ∧
    (((floor clock3 []).setAcct 305 { buyer 12 1 0 0 1 118 with desk := none }).acct 305).desk = none ∧
    (floor clock3 []).isWinner 42 = false ∧ (heldFloor []).isWinner 42 = true ∧ (State.reset.desk 42).buyer = none := by
  decide

theorem witness_ClockStepsAndSettles :
    (let k := (floor { clock3 with timer := some 0, position := some 59 } []).clock 3
     k.state = .running ∧ k.timer = some 0 ∧ k.position = some 59 ∧ 59 + 1 ≤ 99 ∧
       k.reserve.getD 0 + (59 + 1) * k.set.step ≤ k.startPrice.getD 0) ∧
    (let k := (floor { held3 with state := .settling } []).clock 3
     k.state = .settling ∧ k.timer = some 0 ∧ k.winner = some winner42 ∧ k.rehearsalRun = false) ∧
    (floor clock3 []).isOn = true ∧ ((floor clock3 []).clock 3).timer ≠ some 0 := by decide

def runningOut : Clock := { clock3 with timer := some 0, position := some 60 }

theorem witness_RunOutCountsAndReOffers :
    ((floor runningOut []).isOn = true ∧ ((floor runningOut []).clock 3).state = .running ∧
      (floor runningOut []).lot 1730 = some lot1730 ∧ 380 < 200 + (60 + 1) * 3 ∧
      (floor runningOut []).line.outbound.length < 16 ∧ lot1730.runouts + 1 ≤ lot1730.reofferLimit ∧
      ((floor runningOut []).presOf 3).queue.length < 8 ∧ runningOut.rehearsalRun = false) ∧
    (({ lot1730 with reofferLimit := 0 } : LotRec).reofferLimit < lot1730.runouts + 1 ∧
      8 ≤ (({ floor runningOut [] with pres := [(3, { Pres.reset with queue := entry8 })] } : State).presOf 3).queue.length) ∧
    ((floor (halting .runout none) []).clock 3).waitHalt.map (·.reason) = some .runout ∧
    ((∃ v, (floor runningOut []).HaltPlaced 3 .runout 60 v) ∧
      ∃ v, (announceLine (floor runningOut [])).HaltPlaced 3 .runout 60 v) ∧
    ((fullLine (floor runningOut [])).NoPlace ∧ (fullLine (floor runningOut [])).NotWaiting 3) ∧
    ((after (.stepTimerExpiry 3) (floor runningOut [])).lot 1730).map (·.state) = some .announced ∧
    ((after (.stepTimerExpiry 3) ((floor runningOut []).setLot 1730 (some { lot1730 with reofferLimit := 0 }))).lot 1730).map
      (·.state) = some .unsold :=
  ⟨by decide, by decide, by decide, ⟨room_placed _ _ (by decide), ⟨_, announceLine_placed _ _⟩⟩,
    ⟨fullLine_noPlace _, fullLine_notWaiting _ _⟩, by decide, by decide⟩

def windowOf (age : Nat) : State :=
  { State.reset with yard := { Yard.reset with windows := [(3, [{ time := 0, age := age }])] } }

/-- Train 63 stands on segment 1, the last of its route, alone. -/
def arriving (kind : SegKind) (lots : List Nat) : State :=
  yardWith [(1, seg kind [] (.occupied 63))]
    [(63, { moving with lots := lots, head := some 1, occupied := [1], move := some { route := [0, 1], next := 2 } })] []

theorem witness_YardTimersExpire :
    ((windowOf 30000).isOn = true ∧ (windowOf 30000).window 3 = [{ time := 0, age := 30000 }] ∧
      (windowOf 30000).yard.windowLength * 1000 ≤ 30000 ∧ 29999 < (windowOf 29999).yard.windowLength * 1000) ∧
    ((yardWith [] [(63, moving)] []).train 63).state = .moving ∧ ((yardWith [] [(63, moving)] []).train 63).timer = some 0 ∧
    (State.reset.train 63).state ≠ .moving ∧
    (∀ kind, let s := arriving kind []
      (s.train 63).state = .moving ∧ (s.train 63).move.bind (·.route.getLast?) = some 1 ∧ (s.train 63).occupied = [1] ∧
        (s.seg 1).state = .occupied 63 ∧ (s.seg 1).layout = some (layout kind []) ∧
        (s.train 63).lots.all s.lotClosed = true) ∧
    ((arriving (.present 5) [9]).train 63).lots.all (arriving (.present 5) [9]).lotClosed = false ∧
    (((presenting []).train 63).state = .presenting ∧ ((presenting []).train 63).lots.all (presenting []).lotClosed = true ∧
      ((presenting []).train 63).clock = some 5 ∧ ((presenting []).presOf 5).train = some 63 ∧
      ((presenting [1730]).train 63).lots.all (presenting [1730]).lotClosed = false) := by
  refine ⟨by decide, by decide, by decide, by decide, fun kind => ?_, by decide, by decide⟩
  exact ⟨rfl, rfl, rfl, rfl, rfl, rfl⟩

def sensing (left : Nat) : State :=
  { yardWith [(127, { seg .store [] .free with timing := some { since := 0, left := left } })] [] [] with
    sense := [(127, true)] }

/-- Train 63 moves along segments 0 to 3, which have no filter; segment 4 is FREE. -/
def unfiltered (next : Nat) : State :=
  let x : SegState → Segment := fun q =>
    { layout := some { layout .track [] with filter := 0 }, state := q, level := false, timing := none }
  yardWith [(0, x (.occupied 63)), (1, x (.reserved 63)), (2, x (.reserved 63)), (3, x (.reserved 63)), (4, x .free)]
    [(63, { moving with move := some { route := [0, 1, 2, 3], next := next } })] []

theorem witness_SenseLinesAreFilteredIntoEdges :
    ((sensing 0).isOn = true ∧ ((sensing 0).seg 127).layout = some (layout .store []) ∧ (sensing 0).sensed 127 ≠ false ∧
      ((sensing 0).seg 127).level = false ∧ ((sensing 0).seg 127).timing = some { since := 0, left := 0 } ∧
      ((sensing 0).seg 127).state = .free ∧ (layout .store []).filter ≠ 0) ∧
    ((underWay.seg 0).state = .occupied 63 ∧ (underWay.seg 1).state = .reserved 63 ∧
      (underWay.seg 2).state = .fault (some 63) ∧ (∀ n, (underWay.seg 1).state ≠ .occupied n) ∧
      (underWay.train 63).head = some 0 ∧ (underWay.train 63).move = some { route := [0, 1, 2], next := 1 }) ∧
    ((underWay.seg 0).vacant = true ∧ (after (.senseLineChange 1 true) (unfiltered 1)).train 63 =
      { moving with head := some 1, occupied := [1], move := some { route := [0, 1, 2, 3], next := 2 }, timer := some 10000 }) ∧
    (after (.senseLineChange 2 true) (unfiltered 1)).train 63 =
      { (unfiltered 1).train 63 with state := .stalled, cause := some .order, timer := none } ∧
    ((after (.senseLineChange 3 true) (unfiltered 1)).train 63).cause = some .intrusion ∧
    ((after (.senseLineChange 3 true) (unfiltered 1)).seg 3).state = .fault (some 63) ∧
    ((after (.senseLineChange 4 true) (unfiltered 1)).seg 4).state = .fault none := by
  refine ⟨by decide, ⟨by decide, by decide, by decide, fun n => ?_, by decide, by decide⟩, by decide, by decide, by decide,
    by decide, by decide⟩
  exact fun h => nomatch (show SegState.reserved 63 = .occupied n from h)

/-- The head, a broadcast sent three times or a reply sent four times, is on the line. -/
def sendingPart (f : OutFrame) (n : Nat) (orphan : Bool) : State :=
  { State.reset with
    line := { Line.reset with
      outbound := [{ frame := f, sent := n }], sending := some { frame := f, wire := f.wire, orphan := orphan } } }

def mixedWaits : List WaitEntry :=
  [{ who := .clock 1, kind := .run }, { who := .presentation, kind := .announce }, { who := .clock 2, kind := .sale },
    { who := .clock 3, kind := .halt }]
/-- Two ANNOUNCEs at the head of a full queue, the head on the line or not. -/
def displaceable (begun : Bool) : State :=
  let q := announcePlace 5 1730 :: announcePlace 4 1731 :: List.replicate 14 haltPlace
  let f := (announcePlace 5 1730).frame
  { State.reset with
    line := { Line.reset with
      outbound := q, sending := if begun then some { frame := f, wire := f.wire, orphan := false } else none } }

theorem witness_SentFramesLeaveTheQueue :
    ((sendingPart haltPlace.frame 3 false).line.outbound = { frame := haltPlace.frame, sent := 3 } :: [] ∧
      haltPlace.frame.isReply = false ∧ replyPlace.frame.isReply = true ∧
      (sendingPart replyPlace.frame 4 false).line.outbound = { frame := replyPlace.frame, sent := 4 } :: [] ∧
      ((sendingPart replyPlace.frame 4 false).desk 42).reachable = true ∧
      ((sendingPart replyPlace.frame 4 false).setDesk 42 { Desk.reset with reachable := false }).desk 42 =
        { Desk.reset with reachable := false }) ∧
    (∃ x, (sendingPart replyPlace.frame 4 true).line.sending = some x ∧ x.orphan = true ∧ x.frame = replyPlace.frame) ∧
    (∃ x, (sendingPart haltPlace.frame 4 true).line.sending = some x ∧ x.orphan = true ∧ x.frame = haltPlace.frame) ∧
    State.reset.line.sending = none ∧ crowded.line.outbound ≠ [] ∧
    (State.reset.RepliesAhead ∧ crowded.RepliesAhead ∧ 16 ≤ crowded.line.outbound.length ∧
      displaceFrom crowded.headOnLine crowded.line.outbound = none) ∧
    (nextWaiter mixedWaits = some { who := .clock 2, kind := .sale } ∧
      nextWaiter [{ who := .presentation, kind := .announce }, { who := .clock 1, kind := .run }] =
        some { who := .presentation, kind := .announce } ∧
      (mixedWaits.any (·.who == .clock 1) = true ∧ mixedWaits.any (·.who == .clock 5) = false)) ∧
    ((displaceable false).headOnLine = false ∧ (displaceable true).headOnLine = true ∧
      displaceFrom false (displaceable false).line.outbound =
        some (5, 1730, announcePlace 4 1731 :: List.replicate 14 haltPlace) ∧
      displaceFrom true (displaceable true).line.outbound =
        some (4, 1731, announcePlace 5 1730 :: List.replicate 14 haltPlace)) :=
  ⟨⟨by decide, rfl, rfl, by decide, by decide, by decide⟩, ⟨_, rfl, rfl, rfl⟩, ⟨_, rfl, rfl, rfl⟩, rfl, by decide,
    ⟨⟨by decide, fun _ _ h => (nomatch h), by decide⟩, witness_EveryStepKeepsTheQueues.2.1, by decide, by decide⟩, by decide,
    by decide⟩

/-- The reset line is active, and the supply has fallen below FAIL. -/
def failedInReset : State := after .supplyFail (after .resetLineAssert State.reset)
/-- R158: the release enters STARTING below WARN also, a supply that is then told to be below FAIL makes the part OFF, and
one that is restored makes LOW NORMAL. -/
theorem test_release_below_warn :
    failedInReset.power = { monitor := .off, level := .belowFail, resetActive := true } ∧
    (after .resetLineRelease failedInReset).power.monitor = .starting ∧
    (after .supplyFail (after .resetLineRelease failedInReset)).power.monitor = .off ∧
    ((after .resetLineRelease failedInReset).startMonitor).power.monitor = .low ∧
    (after .supplyRestored (after .resetLineRelease failedInReset).startMonitor).power.monitor = .normal := by decide

theorem witness_SupplyAndResetLine :
    (State.reset.power.monitor = .normal ∧ State.reset.power.level = .good ∧ (lowPart State.reset).power.monitor = .low ∧
      (lowPart State.reset).power.level = .belowWarn ∧ State.reset.isOn = true ∧ offPart.power.monitor = .off ∧
      startingPart.power.monitor = .starting ∧ startingPart.power.level = .good ∧
      offPart.power.resetActive = false ∧
      ({ offPart with power := { offPart.power with resetActive := true } } : State).power.resetActive = true ∧
      offPart.power.level ≠ .belowFail) ∧
    (((floor clock3 []).clock 3).state = .running ∧ ((floor clock3 []).clock 3).position = some 12 ∧
      ((floor clock3 []).clock 3).waitHalt = none ∧ clock3.rehearsalRun = false ∧ rehearsing.rehearsalRun = true) ∧
    ((∃ v, (floor clock3 []).HaltPlaced 3 .pause 12 v) ∧ ∃ v, (announceLine (floor rehearsing [])).HaltPlaced 3 .pause 12 v) ∧
    (fullLine (floor clock3 [])).NoPlace ∧
    (∀ reason, ((floor (halting reason none) []).clock 3).waitHalt.map (·.reason) = some reason) ∧
    (((oneClock 5 (waiting5 .restart)).clock 5).state = .restartWait ∧ ((oneClock 5 (waiting5 .restart)).clock 5).waitBegin ≠ none ∧
      ∀ q, ((oneClock 5 (clockIn q)).clock 5).state = q) ∧
    ((after .supplyFail (floor clock3 [])).lot 1730 = some lot1730 ∧
      (after .supplyFail (floor clock3 [])).values = (floor clock3 []).values ∧
      ((after .supplyWarn (floor clock3 [])).clock 3).state = .paused) := by
  refine ⟨by decide, by decide, ⟨room_placed _ _ (by decide), ⟨_, announceLine_placed _ _⟩⟩, fullLine_noPlace _,
    fun reason => rfl, ⟨by decide, by decide, fun q => ?_⟩, by decide⟩
  cases q <;> decide

/-- A release of the one held entry, cut short in its applying (R155, R161). -/
def clearing : ChangeCell :=
  { change := { lots := [], accounts := [], entries := [(8191, none)], values := some JournalValues.empty }, found := none }
def cutShort : State := { journalled with change := some clearing, power := startingPart.power }
def goodEntry9 : JEntry := { oneEntry with check := entryCheck oneEntry }
/-- Place 8191 alone holds an entry, which passes its check. -/
def goodJournal : State := { journalled with journal := { journalled.journal with places := [(8191, some goodEntry9)] } }

theorem witness_PowerUpSequenceRestoresThePart :
    (({ tables with power := startingPart.power } : State).power.monitor = .starting ∧
      ({ tables with power := startingPart.power } : State).TablesWf ∧
      ({ tables with power := startingPart.power } : State).journal.copy1.passes = true ∧ startingPart.power.level = .good) ∧
    (cutShort.power.monitor = .starting ∧ cutShort.TablesWf ∧ cutShort.change = some clearing ∧ clearing.passes = true ∧
      (after .powerUpSequence cutShort).place 8191 = none ∧ (after .powerUpSequence cutShort).values = JournalValues.empty) ∧
    ((clearing.change.lots.map (·.1)).Nodup ∧ (clearing.change.accounts.map (·.1)).Nodup ∧
      (clearing.change.entries.map (·.1)).Nodup ∧ (8191, none) ∈ clearing.change.entries ∧ 8190 ∉ clearing.change.entries.map (·.1)) ∧
    (entryPasses oneEntry = false ∧ journalled.rebuiltValues = JournalValues.empty) ∧
    (goodJournal.goodEntry 8191 = some goodEntry9 ∧ 1 ≤ goodEntry9.seq ∧ goodEntry9.seq ≤ 4294967295 ∧ goodJournal.TablesWf ∧
      goodJournal.goodEntry ((8191 + 8192 - 1) % 8192) = none ∧ goodJournal.goodEntry ((8191 + 8192 - 2) % 8192) = none) :=
  ⟨⟨rfl, { tables_wf with flags := fun p => by cases p <;> decide }, rfl, rfl⟩,
    ⟨rfl, ⟨by decide, by decide, by decide, by decide, by decide, by decide, by decide, by decide, by decide, by decide,
      by decide, fun p => by cases p <;> decide⟩, rfl, rfl, by decide +kernel, by decide +kernel⟩, by decide,
    ⟨by decide +kernel, by decide +kernel⟩,
    ⟨by decide +kernel, by decide +kernel, by decide +kernel,
      ⟨by decide, by decide, by decide +kernel, by decide, by decide, by decide, by decide, by decide, by decide, by decide,
      by decide, fun p => by cases p <;> decide⟩, by decide +kernel, by decide +kernel⟩⟩

theorem witness_MillisecondCountsTimeAgesAndTimers :
    tables.isOn = true ∧ tables.TablesWf ∧ (after .floorTimeMillisecond { State.reset with floorTime := 4294967295 }).floorTime = 0 :=
  ⟨rfl, tables_wf, by decide⟩

end Sys2Proof.Tests
end

section
/-! Trains and moves (R24, R38): the judging of a train's number, and MOVE_RETRY. -/

namespace Sys2Proof.Machine

/-! ## The train number (R24) -/

theorem trainGuard_of_lt (s : State) {n : Nat} (h : n < 64) (a : Answer) : trainGuard s n a = a := if_pos h

theorem trainGuard_of_le (s : State) {n : Nat} (h : 64 ≤ n) (a : Answer) : trainGuard s n a = .refuse s .noRecord :=
  if_neg (Nat.not_lt.mpr h)

/-! ## MOVE_RETRY (R38) -/

/-- The train is under way again, and its transit timer starts with the transit timeout, in milliseconds. -/
def State.resumeTransit (s : State) (n : Nat) : State :=
  s.setTrain n
    { s.train n with state := .moving, cause := none, timer := some (s.yard.transitTimeout * 1000) }

theorem State.moveRetryBlock_of_le (s : State) {n : Nat} (h : 64 ≤ n) :
    s.moveRetryBlock n = .refuse s .noRecord :=
  trainGuard_of_le s h _

theorem State.moveRetryBlock_of_transit_stall (s : State) {n : Nat} (h : n < 64) (hstate : (s.train n).state = .stalled)
    (hcause : (s.train n).cause = some .transit) : s.moveRetryBlock n = .ok (s.resumeTransit n) [] :=
  (trainGuard_of_lt s h _).trans (if_pos ⟨hstate, hcause⟩)

theorem State.moveRetryBlock_of_other (s : State) {n : Nat} (h : n < 64)
    (hother : (s.train n).state ≠ .stalled ∨ (s.train n).cause ≠ some .transit) :
    s.moveRetryBlock n = .refuse s .wrongState :=
  (trainGuard_of_lt s h _).trans (if_neg (not_and_or.mpr hother))

/-- On a ready YRD port, MOVE_RETRY is its block's answer and the reply. -/
theorem exec_moveRetry_ready {s : State} (h : s.Ready .yrd) (t n : Nat) :
    exec (.moveRetry .yrd t n) s = .next ((s.moveRetryBlock n).reply .yrd t) :=
  congrArg Host.Outcome.next (s.command_ready h rfl t fun q => q.moveRetryBlock n)

end Sys2Proof.Machine

namespace Sys2Proof.Proofs
open Machine

/-- Settles O36: the three clauses are the three answers of MOVE_RETRY's block on a ready port. -/
theorem moveRetryResumesATransitStall : Obligations.MoveRetryResumesATransitStall := by
  intro s t n hready
  rw [exec_moveRetry_ready hready]
  refine ⟨fun hout => ?noRecord, fun hin hstate hcause => ?resumed, fun hin hother => ?wrongState⟩
  case noRecord =>
    rw [s.moveRetryBlock_of_le hout]
    rfl
  case resumed =>
    rw [s.moveRetryBlock_of_transit_stall hin hstate hcause]
    rfl
  case wrongState =>
    rw [s.moveRetryBlock_of_other hin hother]
    rfl

end Sys2Proof.Proofs
end

section
/-! Purchase arithmetic (R126): the whole cents an invoice takes from an open amount, and the residue it leaves. -/

namespace Sys2Proof.Machine

theorem invoiceCents_of_nonneg {x : Int} (h : 0 ≤ x) : invoiceCents x = (x + 5) / 10 := if_pos h

theorem invoiceCents_of_neg {x : Int} (h : x < 0) : invoiceCents x = -((-x + 5) / 10) := if_neg (Int.not_le.mpr h)

/-- Below 0 the rounding mirrors the one above 0: a half cent goes away from zero on either side. -/
theorem invoiceCents_eq_neg_of_neg {x : Int} (h : x < 0) : invoiceCents x = -invoiceCents (-x) := by
  rw [invoiceCents_of_neg h, invoiceCents_of_nonneg (Int.neg_nonneg_of_nonpos h.le)]

/-- The residue is the remainder of `x + 5` by 10, moved down by 5. -/
theorem invoiceCents_residue_of_nonneg {x : Int} (h : 0 ≤ x) : x - 10 * invoiceCents x = (x + 5) % 10 - 5 := by
  rw [invoiceCents_of_nonneg h, Int.emod_def]
  ring

theorem invoiceCents_residue_bounds_of_nonneg {x : Int} (h : 0 ≤ x) :
    -5 ≤ x - 10 * invoiceCents x ∧ x - 10 * invoiceCents x ≤ 4 := by
  rw [invoiceCents_residue_of_nonneg h]
  omega

theorem invoiceCents_residue_bounds_of_neg {x : Int} (h : x < 0) :
    -4 ≤ x - 10 * invoiceCents x ∧ x - 10 * invoiceCents x ≤ 5 := by
  obtain ⟨hlow, hhigh⟩ := invoiceCents_residue_bounds_of_nonneg (Int.neg_nonneg_of_nonpos h.le)
  rw [invoiceCents_eq_neg_of_neg h]
  omega

/-- R126's own words for a negative amount, which go through its absolute value. -/
theorem invoiceCents_of_neg_natAbs {x : Int} (h : x < 0) : invoiceCents x = -((x.natAbs + 5) / 10 : Nat) := by
  rw [invoiceCents_of_neg h, ← Int.ofNat_natAbs_of_nonpos h.le]
  rfl

end Sys2Proof.Machine

namespace Sys2Proof.Proofs
open Machine

/-- Settles O38: each sign has its equation of the cents and its bounds of the residue, the bounds below 0 being those
above 0 mirrored. -/
theorem invoiceCentsRoundHalfAwayFromZero : Obligations.InvoiceCentsRoundHalfAwayFromZero := fun _ =>
  ⟨fun h => ⟨invoiceCents_of_nonneg h, invoiceCents_residue_bounds_of_nonneg h⟩,
    fun h => ⟨invoiceCents_of_neg_natAbs h, invoiceCents_residue_bounds_of_neg h⟩⟩

end Sys2Proof.Proofs
end

section
/-! Numbered tables as lists: what a write and a change of every record can list, and how a count of records follows a
write. -/

namespace Sys2Proof

-- One declaration after another, within the memory that a check of the whole text has.
set_option Elab.async false

variable {α : Type}

/-- A read gives a listed record, or what an unlisted number holds. -/
theorem Tab.get_eq_or_mem (d : α) (t : Tab α) (k : Nat) : Tab.get d t k = d ∨ (k, Tab.get d t k) ∈ t := by
  induction t with
  | nil => exact .inl rfl
  | cons c t ih =>
    by_cases hc : c.1 = k
    · subst hc
      exact .inr (by simp [Tab.get])
    · simpa [Tab.get, hc] using ih.imp_right .inr

/-- What holds of every listed record and of the default holds of every read. -/
theorem Tab.forall_get {P : α → Prop} {d : α} {t : Tab α} (h : ∀ c ∈ t, P c.2) (hd : P d) (k : Nat) :
    P (Tab.get d t k) := by
  rcases Tab.get_eq_or_mem d t k with he | hm
  · rwa [he]
  · exact h _ hm

variable [DecidableEq α]

/-- A listed record of a canonical table is what its number reads. -/
theorem Tab.get_of_mem {d : α} {t : Tab α} (hwf : Tab.wf d t = true) {c : Nat × α} (hc : c ∈ t) :
    Tab.get d t c.1 = c.2 := by
  have hp := ((Tab.wf_iff d t).1 hwf).2
  clear hwf
  induction t with
  | nil => cases hc
  | cons e t ih =>
    have he := List.pairwise_cons.1 hp
    rcases List.mem_cons.1 hc with rfl | hm
    · simp [Tab.get]
    · simpa [Tab.get, Nat.ne_of_lt (he.1 c hm)] using ih hm he.2

/-- In a canonical table a property of every read is one of every listed record. -/
theorem Tab.forall_mem_of_get {P : α → Prop} {d : α} {t : Tab α} (hwf : Tab.wf d t = true)
    (h : ∀ k, P (Tab.get d t k)) : ∀ c ∈ t, P c.2 :=
  fun c hc => Tab.get_of_mem hwf hc ▸ h c.1

/-- A write lists the record written and records that were listed. -/
theorem Tab.mem_set {d : α} {t : Tab α} {k : Nat} {v : α} {c : Nat × α} (h : c ∈ Tab.set d t k v) :
    c = (k, v) ∨ c ∈ t := by
  unfold Tab.set at h
  split at h
  · exact .inr (List.mem_filter.1 h).1
  · exact ((Tab.mem_place _ _ _ _).1 h).imp_right fun hm => (List.mem_filter.1 hm).1

/-- A write of a record with a property keeps the property on the table. -/
theorem Tab.forall_set {P : α → Prop} {d : α} {t : Tab α} {k : Nat} {v : α} (h : ∀ c ∈ t, P c.2) (hv : P v) :
    ∀ c ∈ Tab.set d t k v, P c.2 := fun c hc => by
  rcases Tab.mem_set hc with rfl | hm
  · exact hv
  · exact h c hm

/-- A change of every record keeps a property that it keeps of each. -/
theorem Tab.forall_mapAll {P : α → Prop} {d : α} {f : Nat → α → α} {t : Tab α} (h : ∀ c ∈ t, P c.2)
    (hf : ∀ k v, P v → P (f k v)) : ∀ c ∈ Tab.mapAll d f t, P c.2 := fun c hc => by
  simp only [Tab.mapAll, List.mem_filter, List.mem_map] at hc
  obtain ⟨⟨e, he, rfl⟩, -⟩ := hc
  exact hf _ _ (h e he)

omit [DecidableEq α] in
theorem Tab.countP_place (t : Tab α) (k : Nat) (v : α) (p : α → Bool) :
    (Tab.place t k v).countP (fun c => p c.2) = t.countP (fun c => p c.2) + (if p v then 1 else 0) := by
  induction t with
  | nil => simp [Tab.place, List.countP_cons]
  | cons c t ih =>
    simp only [Tab.place]
    split
    · rw [List.countP_cons (a := (k, v))]
    · simp only [List.countP_cons, ih]; omega

/-- The count of a table without a record of number `k`. -/
theorem Tab.countP_erase {d : α} {t : Tab α} (hwf : Tab.wf d t = true) (k : Nat) (p : α → Bool) (hd : p d = false) :
    (Tab.erase t k).countP (fun c => p c.2) + (if p (Tab.get d t k) then 1 else 0) = t.countP (fun c => p c.2) := by
  have hp := ((Tab.wf_iff d t).1 hwf).2
  clear hwf
  induction t with
  | nil => simp [Tab.erase, Tab.get, hd]
  | cons c t ih =>
    have hc := List.pairwise_cons.1 hp
    by_cases hk : c.1 = k
    · subst hk
      have he : Tab.erase t c.1 = t :=
        List.filter_eq_self.2 fun a ha => by simpa using Nat.ne_of_gt (hc.1 a ha)
      have hcons : Tab.erase (c :: t) c.1 = t := by
        rw [← he]; simp [Tab.erase]
      simp [hcons, Tab.get, List.countP_cons]
    · have hcons : Tab.erase (c :: t) k = c :: Tab.erase t k := by simp [Tab.erase, hk]
      have := ih hc.2
      simp only [hcons, Tab.get, hk, if_false, List.countP_cons]
      omega

/-- A write changes a count of records by the record written and the one it takes the place of. -/
theorem Tab.countP_set {d : α} {t : Tab α} (hwf : Tab.wf d t = true) (k : Nat) (v : α) (p : α → Bool)
    (hd : p d = false) :
    (Tab.set d t k v).countP (fun c => p c.2) + (if p (Tab.get d t k) then 1 else 0) =
      t.countP (fun c => p c.2) + (if p v then 1 else 0) := by
  have he := Tab.countP_erase hwf k p hd
  unfold Tab.set
  split
  · next hv => simpa [hv, hd] using he
  · rw [Tab.countP_place]; omega

/-- A change of every record that keeps a property of each keeps its count. -/
theorem Tab.countP_mapAll {d : α} {f : Nat → α → α} (t : Tab α) (p : α → Bool) (hd : p d = false)
    (hf : ∀ k v, p (f k v) = p v) : (Tab.mapAll d f t).countP (fun c => p c.2) = t.countP (fun c => p c.2) := by
  induction t with
  | nil => rfl
  | cons c t ih =>
    simp only [Tab.mapAll, List.map_cons, List.filter_cons] at ih ⊢
    have h := hf c.1 c.2
    split
    · simp only [List.countP_cons, ih, h]
    · next hc =>
      have hc : f c.1 c.2 = d := by simpa using hc
      have hp : p c.2 = false := by rw [← h, hc, hd]
      rw [ih, List.countP_cons_of_neg (by simp [hp])]

end Sys2Proof
end

section
/-! What a change of the part keeps: one relation between the part before and after, made of the parts of the invariants
of Safety.lean, which is closed under doing one change after another. -/

namespace Sys2Proof.Machine

-- One declaration after another, within the memory that a check of the whole text has.
set_option Elab.async false

/-! ## The invariants, each on the fields it speaks of -/

/-- The outbound queue of `State.RepliesAhead` (R171, R174). -/
structure RepliesFirst (q : List OutPlace) : Prop where
  behind : q.tail.Pairwise fun a b => b.frame.isReply = true → a.frame.isReply = true
  head : ∀ a t, q = a :: t → a.sent = 0 → a.frame.isReply = false → ∀ b ∈ t, b.frame.isReply = false
  fresh : ∀ b ∈ q.tail, b.sent = 0

theorem State.repliesAhead_iff (s : State) : s.RepliesAhead ↔ RepliesFirst s.line.outbound :=
  ⟨fun h => ⟨h.behind, h.head, h.fresh⟩, fun h => ⟨h.behind, h.head, h.fresh⟩⟩

/-- Every lot of a table adds up (R7). -/
def LotsSum (t : Tab LotCell) : Prop := ∀ x ∈ t, ∀ r, x.2.lot = some r → LotRec.addsUp r

/-- The held amount is not below 0, and with OVER clear the account stands within its limit (R130). -/
def WithinLimit (a : Account) : Prop :=
  0 ≤ a.heldAmt ∧ (a.isOver = false → a.openAmt + a.billedAmt + a.heldAmt ≤ a.limit)

def AcctsWithin (t : Tab AcctCell) : Prop := ∀ x ∈ t, WithinLimit x.2.acct

/-- A desk names a buyer exactly when the buyer's account names the desk (R143). -/
def Bound (desks : Tab Desk) (accounts : Tab AcctCell) : Prop :=
  ∀ d b, (Tab.get Desk.reset desks d).buyer = some b ↔ (Tab.get AcctCell.vacant accounts b).acct.desk = some d

/-- The reservations of a part that is on (R151), where clock `x`, if one is named, need not hold one though it sells. -/
structure Reserved (x : Option Nat) (j : Journal) (clocks : Tab Clock) : Prop where
  table : Tab.wf Clock.reset clocks = true
  counted : j.copy1.values.reserved = clocks.countP (·.2.reserved)
  free : j.copy1.values.used + j.copy1.values.reserved ≤ 8192
  sells : ∀ c, x ≠ some c → (Tab.get Clock.reset clocks c).Reserves
  halts : ∀ c, (Tab.get Clock.reset clocks c).waitHalt.isSome = true → (Tab.get Clock.reset clocks c).state = .running

theorem Clock.reset_reserves : Clock.reset.Reserves :=
  ⟨nofun, fun ⟨_, h, _⟩ => by simp [Clock.reset] at h, fun ⟨_, h, _⟩ => by simp [Clock.reset] at h, nofun⟩

theorem State.ReservationsHold.reserved {s : State} (h : s.ReservationsHold) (hon : s.isOn = true) :
    Reserved none s.journal s.clocks :=
  have hsells := Tab.forall_get (P := Clock.Reserves) (h.clocks hon) Clock.reset_reserves
  ⟨h.table, h.counted hon, h.free hon, fun c _ => hsells c, fun c => (hsells c).halt⟩

/-- Place `k` holds an entry of the held range of `j` (R150). -/
def Journal.Held (j : Journal) (k : Nat) : Prop :=
  ∃ i, i < j.copy1.values.used ∧ k = (j.copy1.values.oldestPlace + i) % 8192

/-! ## The relation -/

/-- What a change from `s` to `t` keeps, its accounts' limits and its reservations apart. Each field is the one obligation
on the change where the fields that it names are written. -/
structure Sound (s t : State) : Prop where
  on : t.isOn = s.isOn := by rfl
  pending : t.pending = s.pending := by rfl
  change : s.change = none → t.change = none := by exact id
  inbound : s.line.inbound.length ≤ 32 → t.line.inbound.length ≤ 32 := by exact id
  outbound : s.line.outbound.length ≤ 16 → t.line.outbound.length ≤ 16 := by exact id
  replies : RepliesFirst s.line.outbound → RepliesFirst t.line.outbound := by exact id
  moves : s.yard.moves.length ≤ 16 → t.yard.moves.length ≤ 16 := by exact id
  windows : (∀ x ∈ s.yard.windows, x.2.length ≤ 4) → ∀ x ∈ t.yard.windows, x.2.length ≤ 4 := by exact id
  queues : (∀ x ∈ s.pres, x.2.queue.length ≤ 8) → ∀ x ∈ t.pres, x.2.queue.length ≤ 8 := by exact id
  lotTable : Tab.wf LotCell.free s.lots = true → Tab.wf LotCell.free t.lots = true := by exact id
  acctTable : Tab.wf AcctCell.vacant s.accounts = true → Tab.wf AcctCell.vacant t.accounts = true := by exact id
  placeTable : Tab.wf none s.journal.places = true → Tab.wf none t.journal.places = true := by exact id
  segTable : Tab.wf Segment.undefined s.yard.segs = true → Tab.wf Segment.undefined t.yard.segs = true := by exact id
  trainTable : Tab.wf Train.empty s.yard.trains = true → Tab.wf Train.empty t.yard.trains = true := by exact id
  windowTable : Tab.wf [] s.yard.windows = true → Tab.wf [] t.yard.windows = true := by exact id
  senseTable : Tab.wf false s.sense = true → Tab.wf false t.sense = true := by exact id
  presTable : Tab.wf Pres.reset s.pres = true → Tab.wf Pres.reset t.pres = true := by exact id
  clockTable : Tab.wf Clock.reset s.clocks = true → Tab.wf Clock.reset t.clocks = true := by exact id
  feeTable : Tab.wf FeeClass.zero s.fees = true → Tab.wf FeeClass.zero t.fees = true := by exact id
  deskTable : Tab.wf Desk.reset s.desks = true → Tab.wf Desk.reset t.desks = true := by exact id
  flagTables : (∀ p, Tab.wf Flag.clear (s.port p).flags = true) → ∀ p, Tab.wf Flag.clear (t.port p).flags = true := by
    exact id
  sums : LotsSum s.lots → LotsSum t.lots := by exact id
  bound : Tab.wf Desk.reset s.desks = true → Tab.wf AcctCell.vacant s.accounts = true → Bound s.desks s.accounts →
    Bound t.desks t.accounts := by exact fun _ _ => id

/-- A sound change that keeps the reservations, and leaves every held entry of the journal held and as it was (R149,
R151). Clock `x` need not hold its reservation before, clock `y` not after. -/
structure Reserves (x y : Option Nat) (s t : State) : Prop extends Sound s t where
  reserved : s.isOn = true → Reserved x s.journal s.clocks → Reserved y t.journal t.clocks := by exact fun _ => id
  entries : s.isOn = true → Reserved x s.journal s.clocks → ∀ k, s.journal.Held k →
    t.journal.Held k ∧ Tab.get none t.journal.places k = Tab.get none s.journal.places k := by
    exact fun _ _ _ h => ⟨h, rfl⟩

/-- A change that keeps every part of the invariants. -/
structure Keeps (x y : Option Nat) (s t : State) : Prop extends Reserves x y s t where
  within : AcctsWithin s.accounts → AcctsWithin t.accounts := by exact id

variable {x y z : Option Nat} {s t u : State}

theorem Keeps.refl (x : Option Nat) (s : State) : Keeps x x s s := { }

theorem Sound.trans (h : Sound s t) (g : Sound t u) : Sound s u where
  on := g.on.trans h.on
  pending := g.pending.trans h.pending
  change := g.change ∘ h.change
  inbound := g.inbound ∘ h.inbound
  outbound := g.outbound ∘ h.outbound
  replies := g.replies ∘ h.replies
  moves := g.moves ∘ h.moves
  windows := g.windows ∘ h.windows
  queues := g.queues ∘ h.queues
  lotTable := g.lotTable ∘ h.lotTable
  acctTable := g.acctTable ∘ h.acctTable
  placeTable := g.placeTable ∘ h.placeTable
  segTable := g.segTable ∘ h.segTable
  trainTable := g.trainTable ∘ h.trainTable
  windowTable := g.windowTable ∘ h.windowTable
  senseTable := g.senseTable ∘ h.senseTable
  presTable := g.presTable ∘ h.presTable
  clockTable := g.clockTable ∘ h.clockTable
  feeTable := g.feeTable ∘ h.feeTable
  deskTable := g.deskTable ∘ h.deskTable
  flagTables := g.flagTables ∘ h.flagTables
  sums := g.sums ∘ h.sums
  bound := fun hd ha hb => g.bound (h.deskTable hd) (h.acctTable ha) (h.bound hd ha hb)

theorem Reserves.trans (h : Reserves x y s t) (g : Reserves y z t u) : Reserves x z s u where
  toSound := h.toSound.trans g.toSound
  reserved := fun hon hr => g.reserved (h.on.trans hon) (h.reserved hon hr)
  entries := fun hon hr k hk => by
    obtain ⟨hk1, hp1⟩ := h.entries hon hr k hk
    obtain ⟨hk2, hp2⟩ := g.entries (h.on.trans hon) (h.reserved hon hr) k hk1
    exact ⟨hk2, hp2.trans hp1⟩

theorem Keeps.trans (h : Keeps x y s t) (g : Keeps y z t u) : Keeps x z s u where
  toReserves := h.toReserves.trans g.toReserves
  within := g.within ∘ h.within

/-- A change may use that the reservations hold before it. -/
theorem Keeps.of_reserved (h : Sound s t) (hw : AcctsWithin s.accounts → AcctsWithin t.accounts)
    (hk : s.isOn = true → Reserved x s.journal s.clocks → Reserves x y s t) : Keeps x y s t :=
  { h with
    reserved := fun hon hr => (hk hon hr).reserved hon hr
    entries := fun hon hr => (hk hon hr).entries hon hr
    within := hw }

/-- A change may use that the accounts stand within their limits before it. -/
theorem Keeps.of_within (h : Reserves x y s t) (hk : AcctsWithin s.accounts → Keeps x y s t) : Keeps x y s t :=
  { h with within := fun hs => (hk hs).within hs }

theorem Keeps.ite {p : Prop} [Decidable p] (h : p → Keeps x y s t) (g : ¬p → Keeps x y s u) :
    Keeps x y s (if p then t else u) := by
  split
  · exact h ‹p›
  · exact g ‹¬p›

/-- A walk keeps what each of its changes keeps. -/
theorem Keeps.each {f : Nat → State → State} (h : ∀ c s, Keeps x x s (f c s)) (l : List Nat) (s : State) :
    Keeps x x s (State.each f l s) := by
  induction l generalizing s with
  | nil => exact .refl x s
  | cons c l ih => exact (h c s).trans (ih _)

/-! ## One rule for each write of a record -/

theorem Tab.sum_lot {t : Tab LotCell} (h : LotsSum t) (k : Nat) :
    ∀ r, (Tab.get LotCell.free t k).lot = some r → LotRec.addsUp r :=
  Tab.forall_get (P := fun c : LotCell => ∀ r, c.lot = some r → LotRec.addsUp r) h (by simp [LotCell.free]) k

theorem keeps_setLot (s : State) (k : Nat) (r : Option LotRec)
    (h : (∀ q, s.lot k = some q → LotRec.addsUp q) → ∀ q, r = some q → LotRec.addsUp q) : Keeps x x s (s.setLot k r) where
  lotTable := Tab.wf_set _ _ _ _
  sums := fun hs => Tab.forall_set (P := fun c : LotCell => ∀ q, c.lot = some q → LotRec.addsUp q) hs
    (h (Tab.sum_lot hs k))

theorem keeps_updLot (s : State) (k : Nat) (f : LotRec → LotRec) (h : ∀ q : LotRec, LotRec.addsUp q → LotRec.addsUp (f q)) :
    Keeps x x s (s.updLot k f) := by
  unfold State.updLot
  split
  · exact .refl x s
  · next r hr =>
    refine keeps_setLot s k _ fun hs q hq => ?_
    obtain rfl := Option.some.inj hq
    exact h r (hs r hr)

theorem vacant_withinLimit : WithinLimit Account.vacant := by simp [WithinLimit, Account.vacant]

/-- An account is written with its binding as it is. -/
theorem reserves_setAcct (s : State) (b : Nat) (a : Account) (hd : a.desk = (s.acct b).desk) :
    Reserves x x s (s.setAcct b a) where
  acctTable := Tab.wf_set _ _ _ _
  bound := fun _ _ hb d j => by
    rw [State.setAcct_accounts, Tab.get_set]
    split
    · next hj =>
      subst hj
      rw [show ({ acct := a, found := none } : AcctCell).acct.desk = _ from hd]
      exact hb d j
    · exact hb d j

theorem AcctsWithin.acct (h : AcctsWithin s.accounts) (b : Nat) : WithinLimit (s.acct b) :=
  Tab.forall_get (P := fun c : AcctCell => WithinLimit c.acct) h vacant_withinLimit b

theorem AcctsWithin.set (h : AcctsWithin s.accounts) {b : Nat} {a : Account} (ha : WithinLimit a) :
    AcctsWithin (s.setAcct b a).accounts :=
  Tab.forall_set (P := fun c : AcctCell => WithinLimit c.acct) h ha

theorem keeps_setAcct (s : State) (b : Nat) (a : Account) (h : WithinLimit (s.acct b) → WithinLimit a)
    (hd : a.desk = (s.acct b).desk) : Keeps x x s (s.setAcct b a) where
  toReserves := reserves_setAcct s b a hd
  within := fun hs => hs.set (h (hs.acct b))

theorem keeps_setDesk (s : State) (d : Nat) (e : Desk) (h : e.buyer = (s.desk d).buyer := by rfl) :
    Keeps x x s (s.setDesk d e) where
  deskTable := Tab.wf_set _ _ _ _
  bound := fun _ _ hb j b => by
    rw [State.setDesk_desks, Tab.get_set]
    split
    · next hj => subst hj; rw [h]; exact hb j b
    · exact hb j b

theorem keeps_setSeg (s : State) (g : Nat) (r : Segment) : Keeps x x s (s.setSeg g r) where
  segTable := Tab.wf_set _ _ _ _

theorem keeps_setTrain (s : State) (n : Nat) (r : Train) : Keeps x x s (s.setTrain n r) where
  trainTable := Tab.wf_set _ _ _ _

theorem keeps_setWindow (s : State) (g : Nat) (w : List Launch) (h : (s.window g).length ≤ 4 → w.length ≤ 4) :
    Keeps x x s (s.setWindow g w) where
  windowTable := Tab.wf_set _ _ _ _
  windows := fun hs => Tab.forall_set (P := fun w : List Launch => w.length ≤ 4) hs
    (h (Tab.forall_get (P := fun w : List Launch => w.length ≤ 4) hs (by simp) g))

theorem keeps_setMoves (s : State) (l : List Nat) (h : s.yard.moves.length ≤ 16 → l.length ≤ 16) :
    Keeps x x s (s.setMoves l) where
  moves := h

theorem keeps_setPres (s : State) (c : Nat) (p : Pres)
    (h : (s.presOf c).queue.length ≤ 8 → p.queue.length ≤ 8) : Keeps x x s (s.setPres c p) where
  presTable := Tab.wf_set _ _ _ _
  queues := fun hs => Tab.forall_set (P := fun p : Pres => p.queue.length ≤ 8) hs
    (h (Tab.forall_get (P := fun p : Pres => p.queue.length ≤ 8) hs (by simp [Pres.reset]) c))

/-- What is held for a clock is written with the queue as it is. -/
theorem keeps_setPres_same (s : State) (c : Nat) (p : Pres) (h : p.queue = (s.presOf c).queue := by rfl) :
    Keeps x x s (s.setPres c p) :=
  keeps_setPres s c p fun hl => h ▸ hl

/-- A clock is written with the reservation that it had; where it is the clock left out before and not after, it holds
its reservation now. -/
theorem keeps_setClock_from (s : State) (c : Nat) (k : Clock)
    (hx : y ≠ some c → (x ≠ some c → (s.clock c).Reserves) →
      ((s.clock c).waitHalt.isSome = true → (s.clock c).state = .running) → k.Reserves)
    (hh : (x ≠ some c → (s.clock c).Reserves) →
      ((s.clock c).waitHalt.isSome = true → (s.clock c).state = .running) → k.waitHalt.isSome = true → k.state = .running)
    (hxy : ∀ d, d ≠ c → y ≠ some d → x ≠ some d)
    (hr : k.reserved = (s.clock c).reserved := by rfl) : Keeps x y s (s.setClock c k) where
  clockTable := Tab.wf_set _ _ _ _
  reserved := fun _ hs =>
    { table := Tab.wf_set _ _ _ _ hs.table
      counted := by
        have h := Tab.countP_set hs.table c k (fun k => k.reserved) rfl
        have hg : (Tab.get Clock.reset s.clocks c).reserved = k.reserved := hr.symm
        rw [hg] at h
        exact hs.counted.trans (Nat.add_right_cancel h).symm
      free := hs.free
      sells := fun d hd => by
        rw [State.setClock_clocks, Tab.get_set]
        split
        · next he => subst he; exact hx hd (hs.sells d) (hs.halts d)
        · next he => exact hs.sells d (hxy d he hd)
      halts := fun d => by
        rw [State.setClock_clocks, Tab.get_set]
        split
        · next he => subst he; exact hh (hs.sells d) (hs.halts d)
        · exact hs.halts d }

theorem keeps_setClock (s : State) (c : Nat) (k : Clock) (h : (s.clock c).Reserves → k.Reserves)
    (hr : k.reserved = (s.clock c).reserved := by rfl) : Keeps none none s (s.setClock c k) :=
  keeps_setClock_from s c k (fun _ hk _ => h (hk nofun)) (fun hk _ => (h (hk nofun)).halt) (fun _ _ => id) hr

theorem keeps_setInbound (s : State) (q : List DeskFrame) (h : s.line.inbound.length ≤ 32 → q.length ≤ 32) :
    Keeps x x s (s.setInbound q) where
  inbound := h

theorem keeps_setOutbound (s : State) (q : List OutPlace)
    (hl : s.line.outbound.length ≤ 16 → q.length ≤ 16)
    (hq : RepliesFirst s.line.outbound → RepliesFirst q) : Keeps x x s (s.setOutbound q) where
  outbound := hl
  replies := hq

theorem keeps_setWaits (s : State) (w : List WaitEntry) : Keeps x x s (s.setWaits w) := { }

theorem keeps_setSending (s : State) (f : Option Sending) : Keeps x x s (s.setSending f) := { }

theorem keeps_setAck (s : State) (b : Bool) : Keeps x x s (s.setAck b) := { }

theorem State.setPort_port (s : State) (p q : Port) (c : PortCtx) :
    (s.setPort p c).port q = if q = p then c else s.port q := by
  split
  · next h => subst h; exact s.setPort_same q c
  · next h => exact s.setPort_other p q c h

theorem keeps_setPort (s : State) (p : Port) (c : PortCtx)
    (h : Tab.wf Flag.clear (s.port p).flags = true → Tab.wf Flag.clear c.flags = true) :
    Keeps x x s (s.setPort p c) := by
  have hf : (∀ q, Tab.wf Flag.clear (s.port q).flags = true) →
      ∀ q, Tab.wf Flag.clear ((s.setPort p c).port q).flags = true := fun hs q => by
    rw [State.setPort_port]
    split
    · exact h (hs p)
    · exact hs q
  cases p <;> exact { flagTables := hf }

/-- A port is written with its notice flags as they are. -/
theorem keeps_setPort_same (s : State) (p : Port) (c : PortCtx) (h : c.flags = (s.port p).flags := by rfl) :
    Keeps x x s (s.setPort p c) :=
  keeps_setPort s p c fun hs => h ▸ hs

theorem keeps_setFlag (s : State) (p : Port) (k : Nat) (f : Flag) : Keeps x x s (s.setFlag p k f) :=
  keeps_setPort s p _ fun hs => Tab.wf_set _ _ _ _ hs

theorem keeps_raise (s : State) (p : Port) (n : Notice) (d : Detail) : Keeps x x s (s.raise p n d) := by
  unfold State.raise
  dsimp only
  split
  · exact .refl x s
  · exact keeps_setFlag s p _ _

theorem keeps_raiseOver (s : State) (b : Nat) : Keeps x x s (s.raiseOver b) :=
  (keeps_raise s _ _ _).trans (keeps_raise _ _ _ _)

end Sys2Proof.Machine
end

section
/-! What the operations on accounts, lots and the yard keep. -/

namespace Sys2Proof.Machine

-- One declaration after another, within the memory that a check of the whole text has.
set_option Elab.async false

variable {x : Option Nat} (s : State)

/-! ## Accounts (R121, R130, R136 to R143) -/

/-- What a booking can do: the account is stored with OVER judged, and ACCOUNT_OVER may be given. A booking that may set
OVER, that is saturated, or that leaves the account within its limit stores it so (R121, R130). -/
theorem State.book_cases (b : Nat) (a : Account) (sat maySet mayClear : Bool) :
    ∃ z, z.desk = a.desk ∧
      (0 ≤ a.heldAmt ∧ (sat = true ∨ maySet = true ∨ (a.isOver = false → exposureExact a ≤ a.limit)) →
        WithinLimit z) ∧
      (s.book b a sat maySet mayClear = s.setAcct b z ∨
        s.book b a sat maySet mayClear = (s.setAcct b z).raiseOver b) := by
  unfold State.book
  dsimp only
  by_cases hnow : (sat || maySet && decide (a.limit < exposureExact a)) = true
  · rw [if_pos hnow, if_pos hnow]
    exact ⟨{ a with saturated := a.saturated || sat, isOver := true }, rfl, fun h => ⟨h.1, nofun⟩, .inr rfl⟩
  · rw [if_neg hnow, if_neg hnow]
    refine ⟨{ a with
      saturated := a.saturated || sat
      isOver := if mayClear && !decide (a.limit < exposureExact a) && !(a.saturated || sat) then false else a.isOver },
      rfl, fun ⟨h0, h⟩ => ⟨h0, fun hover => ?_⟩, .inl rfl⟩
    change exposureExact a ≤ a.limit
    simp only [Bool.or_eq_true, Bool.and_eq_true, decide_eq_true_eq, not_or, not_and] at hnow
    by_cases habove : a.limit < exposureExact a
    · simp only [habove, decide_true, Bool.not_true, Bool.and_false, Bool.false_and, Bool.false_eq_true,
        if_false] at hover
      rcases h with h | h | h
      · exact absurd h hnow.1
      · exact absurd habove (hnow.2 h)
      · exact h hover
    · exact Int.not_lt.1 habove

theorem reserves_book (b : Nat) (a : Account) (sat maySet mayClear : Bool) (hd : a.desk = (s.acct b).desk) :
    Reserves x x s (s.book b a sat maySet mayClear) := by
  obtain ⟨z, hz, -, he | he⟩ := s.book_cases b a sat maySet mayClear <;> rw [he]
  · exact reserves_setAcct s b z (hz.trans hd)
  · exact (reserves_setAcct s b z (hz.trans hd)).trans (keeps_raiseOver _ b).toReserves

/-- A change of an account that is judged (R130): it may set OVER, it is saturated, or it leaves the account within its
limit. -/
theorem keeps_book (b : Nat) (a : Account) (sat maySet mayClear : Bool) (hd : a.desk = (s.acct b).desk)
    (h : WithinLimit (s.acct b) →
      0 ≤ a.heldAmt ∧ (sat = true ∨ maySet = true ∨ (a.isOver = false → exposureExact a ≤ a.limit))) :
    Keeps x x s (s.book b a sat maySet mayClear) := by
  obtain ⟨z, hz, hw, he | he⟩ := s.book_cases b a sat maySet mayClear <;> rw [he]
  · exact keeps_setAcct s b z (fun hs => hw (h hs)) (hz.trans hd)
  · exact (keeps_setAcct s b z (fun hs => hw (h hs)) (hz.trans hd)).trans (keeps_raiseOver _ b)

theorem lessHold_le {a : Account} {hold : Nat} (h : 0 ≤ a.heldAmt) : (lessHold a hold).heldAmt ≤ a.heldAmt := by
  simp only [lessHold]; omega

theorem lessHold_nonneg (a : Account) (hold : Nat) : 0 ≤ (lessHold a hold).heldAmt := by
  simp only [lessHold]; omega

theorem keeps_releaseHold (b hold : Nat) : Keeps x x s (s.releaseHold b hold) :=
  keeps_book s b (lessHold (s.acct b) hold) false false true rfl fun ⟨h0, hw⟩ =>
    ⟨lessHold_nonneg _ _, .inr (.inr fun ho => by
      have := hw ho
      have hle := lessHold_le (hold := hold) h0
      have he : exposureExact (lessHold (s.acct b) hold) =
        (s.acct b).openAmt + (s.acct b).billedAmt + (lessHold (s.acct b) hold).heldAmt := rfl
      have hl : (lessHold (s.acct b) hold).limit = (s.acct b).limit := rfl
      omega)⟩

/-- A hold that passes the credit check fits under the limit (R98, R122). -/
theorem exposureExact_add_le_of_creditPasses {a : Account} {hold : Nat} (h : creditPasses a hold = true) :
    exposureExact a + hold ≤ a.limit := by
  simp only [creditPasses, saturatedHigh, Bool.and_eq_true, Bool.not_eq_true', decide_eq_false_iff_not,
    decide_eq_true_eq] at h
  simp only [headroom, exposure, saturate, clampInt, Config.amountLimit] at h
  omega

theorem saturate_eq_of_not_overflows {v : Int} (h : overflows v = false) : saturate v = v := by
  simp only [overflows, Bool.or_eq_false_iff, decide_eq_false_iff_not] at h
  simp only [saturate, clampInt, Config.amountLimit] at h ⊢
  omega

theorem saturate_nonneg {v : Int} (h : 0 ≤ v) : 0 ≤ saturate v := by
  simp only [saturate, clampInt, Config.amountLimit]
  omega

/-- A hold is placed that fits under the limit of an account that is not OVER. -/
theorem keeps_placeHold (b hold : Nat)
    (h : WithinLimit (s.acct b) → (s.acct b).isOver = false → exposureExact (s.acct b) + hold ≤ (s.acct b).limit) :
    Keeps x x s (s.placeHold b hold) := by
  refine keeps_book s b _ _ false false rfl fun hw => ⟨saturate_nonneg (by have := hw.1; omega), ?_⟩
  cases ho : overflows ((s.acct b).heldAmt + hold) with
  | true => exact .inl rfl
  | false =>
    refine .inr (.inr fun hover => ?_)
    have hfit := h hw hover
    simp only [saturate_eq_of_not_overflows ho, exposureExact] at hfit ⊢
    omega

theorem reserves_placeHold (b hold : Nat) : Reserves x x s (s.placeHold b hold) :=
  reserves_book s b _ _ _ _ rfl

theorem keeps_bookPurchase (b hold net seq : Nat) : Keeps x x s (s.bookPurchase b hold net seq) := by
  unfold State.bookPurchase
  split
  · exact keeps_releaseHold s b hold
  · exact keeps_book s b _ _ true true rfl fun _ => ⟨lessHold_nonneg _ _, .inr (.inl rfl)⟩

theorem keeps_bookVoid (b net seq : Nat) : Keeps x x s (s.bookVoid b net seq) := by
  unfold State.bookVoid
  split
  · exact .refl x s
  · refine keeps_book s b _ _ false true rfl fun hw => ⟨hw.1, ?_⟩
    cases ho : overflows ((s.acct b).openAmt - net) with
    | true => exact .inl rfl
    | false =>
      refine .inr (.inr fun hover => ?_)
      have hlim := hw.2 hover
      simp only [saturate_eq_of_not_overflows ho, countEntry, exposureExact] at hlim ⊢
      omega

theorem keeps_closeInvoice (b : Nat) : Keeps x x s (s.closeInvoice b) := by
  unfold State.closeInvoice
  dsimp only
  refine keeps_book s b _ _ false false rfl fun hw => ⟨hw.1, ?_⟩
  cases ho : overflows ((s.acct b).billedAmt + 10 * invoiceCents (s.acct b).openAmt) ||
      overflows ((s.acct b).openAmt - 10 * invoiceCents (s.acct b).openAmt) with
  | true => exact .inl rfl
  | false =>
    obtain ⟨hbilled, hopened⟩ := Bool.or_eq_false_iff.1 ho
    refine .inr (.inr fun hover => ?_)
    have hlim := hw.2 hover
    simp only [saturate_eq_of_not_overflows hbilled, saturate_eq_of_not_overflows hopened, exposureExact]
    omega

theorem appliedMils_nonneg (a : Account) (cents : Nat) : 0 ≤ appliedMils a cents := by
  unfold appliedMils
  split <;> omega

theorem keeps_pay (b cents : Nat) : Keeps x x s (s.pay b cents) := by
  unfold State.pay
  dsimp only
  split
  · exact .refl x s
  · refine keeps_book s b _ false false true rfl fun hw => ⟨hw.1, .inr (.inr fun hover => ?_)⟩
    have hlim := hw.2 hover
    have happ := appliedMils_nonneg (s.acct b) cents
    simp only [exposureExact]
    omega

/-! ## Bindings (R143 to R146) -/

/-- A desk and an account are written in one step so that they name each other or both name none. -/
theorem keeps_rebind (d b : Nat) (e : Desk) (a : Account)
    (hw : WithinLimit (s.acct b) → WithinLimit a)
    (h : Bound s.desks s.accounts → Bound (Tab.set Desk.reset s.desks d e)
      (Tab.set AcctCell.vacant s.accounts b { acct := a, found := none })) :
    Keeps x x s ((s.setDesk d e).setAcct b a) where
  acctTable := Tab.wf_set _ _ _ _
  deskTable := Tab.wf_set _ _ _ _
  within := fun hs => hs.set (s := s) (hw (hs.acct b))
  bound := fun _ _ => h

theorem keeps_unbind (d b : Nat) (h : (s.desk d).buyer = some b) : Keeps x x s (s.unbind d b) := by
  refine keeps_rebind s d b _ _ id fun hb j k => ?_
  have hd : (Tab.get AcctCell.vacant s.accounts b).acct.desk = some d := (hb d b).1 h
  rw [Tab.get_set, Tab.get_set]
  have hjk := hb j k
  by_cases hj : j = d <;> by_cases hk : k = b
  · simp [hj, hk]
  · subst hj
    simp only [if_true, if_neg hk]
    refine ⟨nofun, fun hk2 => ?_⟩
    exact absurd (Option.some.inj (((hb j k).2 hk2).symm.trans h)) hk
  · subst hk
    simp only [if_true, if_neg hj]
    refine ⟨fun hj2 => ?_, nofun⟩
    exact absurd (Option.some.inj (((hb j k).1 hj2).symm.trans hd)) hj
  · simpa [hj, hk] using hjk

theorem keeps_bind (d b : Nat) (hd : (s.desk d).buyer = none ∨ (s.desk d).buyer = some b)
    (ha : (s.acct b).desk = none ∨ (s.acct b).desk = some d) : Keeps x x s (s.bind d b) := by
  refine keeps_rebind s d b _ _ id fun hb j k => ?_
  change (Tab.get Desk.reset s.desks d).buyer = none ∨ (Tab.get Desk.reset s.desks d).buyer = some b at hd
  change (Tab.get AcctCell.vacant s.accounts b).acct.desk = none ∨
    (Tab.get AcctCell.vacant s.accounts b).acct.desk = some d at ha
  rw [Tab.get_set, Tab.get_set]
  by_cases hj : j = d <;> by_cases hk : k = b
  · simp [hj, hk]
  · subst hj
    simp only [if_true, if_neg hk, Option.some.injEq]
    refine ⟨fun e => absurd e.symm hk, fun hk2 => ?_⟩
    have := (hb j k).2 hk2
    rcases hd with hd | hd <;> rw [hd] at this
    · cases this
    · exact Option.some.inj this
  · subst hk
    simp only [if_true, if_neg hj, Option.some.injEq]
    refine ⟨fun hj2 => ?_, fun e => absurd e.symm hj⟩
    have := (hb j k).1 hj2
    rcases ha with ha | ha <;> rw [ha] at this
    · cases this
    · exact Option.some.inj this
  · simpa [hj, hk] using hb j k

/-- An account that is retired takes its binding with it (R134). -/
theorem keeps_retire (b : Nat) : Keeps x x s (s.retire b) := by
  unfold State.retire
  cases hd : (s.acct b).desk with
  | none => exact keeps_setAcct s b _ (fun _ => vacant_withinLimit) hd.symm
  | some d =>
    refine keeps_rebind s d b _ _ (fun _ => vacant_withinLimit) fun hb j k => ?_
    have hbuyer : (Tab.get Desk.reset s.desks d).buyer = some b := (hb d b).2 hd
    change (Tab.get AcctCell.vacant s.accounts b).acct.desk = some d at hd
    rw [Tab.get_set, Tab.get_set]
    by_cases hj : j = d <;> by_cases hk : k = b
    · simp [hj, hk, Account.vacant]
    · subst hj
      simp only [if_true, if_neg hk]
      refine ⟨nofun, fun hk2 => ?_⟩
      exact absurd (Option.some.inj (((hb j k).2 hk2).symm.trans hbuyer)) hk
    · subst hk
      simp only [if_true, if_neg hj]
      refine ⟨fun hj2 => ?_, nofun⟩
      exact absurd (Option.some.inj (((hb j k).1 hj2).symm.trans hd)) hj
    · simpa [hj, hk] using hb j k

/-! ## Lots (R2 to R9, R42, R48) -/

theorem keeps_setLotState (k : Nat) (q : LotState) : Keeps x x s (s.setLotState k q) :=
  keeps_updLot s k _ fun _ => id

theorem keeps_lotJoins (k c : Nat) : Keeps x x s (s.lotJoins k c) := keeps_updLot s k _ fun _ => id

theorem keeps_clearTrain (n : Nat) : Keeps x x s (s.clearTrain n) := by
  unfold State.clearTrain
  dsimp only
  have h := (keeps_setTrain (x := x) s n { s.train n with state := .cleared }).trans
    (keeps_raise _ .yrd .trainCleared (.number n))
  split
  · exact h
  · split
    · exact h.trans (keeps_setPres_same _ _ _)
    · exact h

theorem keeps_reportClosure (n : Option Nat) : Keeps x x s (s.reportClosure n) := by
  unfold State.reportClosure
  split
  · exact .refl x s
  · split
    · exact keeps_clearTrain s _
    · exact .refl x s

theorem keeps_closeLot (k : Nat) (w : CloseWay) : Keeps x x s (s.closeLot k w) := by
  unfold State.closeLot
  split
  · exact .refl x s
  · next r hr =>
    refine (keeps_setLot s k _ fun h q hq => ?_).trans (keeps_reportClosure _ _)
    obtain rfl := Option.some.inj hq
    exact h r hr

/-! ## Filling a queue (R48) -/

theorem keeps_fillUpTo (n c : Nat) : Keeps x x s (State.fillUpTo n c s) := by
  induction n generalizing s with
  | zero => exact .refl x s
  | succ n ih =>
    unfold State.fillUpTo
    dsimp only
    split
    · exact .refl x s
    · split
      · next hroom =>
        split
        · exact .refl x s
        · next k _ =>
          refine ((keeps_lotJoins s k c).trans (keeps_setPres _ c _ fun _ => ?_)).trans (ih _)
          simp only [Config.queueSize] at hroom
          simpa using hroom
      · exact .refl x s

theorem keeps_fill (c : Nat) : Keeps x x s (s.fill c) := keeps_fillUpTo s _ c

theorem keeps_nameTrain (c n : Nat) : Keeps x x s (s.nameTrain c n) :=
  (keeps_setPres_same s c { s.presOf c with train := some n }).trans (keeps_fill _ c)

/-! ## Launches (R29 to R31) -/

theorem keeps_setSegState (g : Nat) (q : SegState) : Keeps x x s (s.setSegState g q) := keeps_setSeg s g _

/-- A walk that writes segment states changes the segments alone. -/
theorem State.each_setSegState_window (f : Nat → SegState) (l : List Nat) (g : Nat) :
    (State.each (fun h q => q.setSegState h (f h)) l s).window g = s.window g := by
  induction l generalizing s with
  | nil => rfl
  | cons h l ih => exact ih _

theorem State.eligible_window {n : Nat} (h : s.eligible n = true) :
    (s.window (s.seg ((s.route n).headD 0)).group).length < 4 := by
  unfold State.eligible at h
  cases hr : s.route n with
  | nil => simp [hr] at h
  | cons g rest =>
    simp only [hr, Bool.and_eq_true, decide_eq_true_eq] at h
    simpa [hr, Config.windowSize] using h.1.2

theorem keeps_launch {n : Nat} (h : s.eligible n = true) : Keeps x x s (s.launch n) := by
  unfold State.launch
  dsimp only
  refine ((((Keeps.each (fun g q => keeps_setSegState q g _) _ s).trans
    (keeps_setWindow _ _ _ fun _ => ?_)).trans (keeps_setMoves _ _ fun hm => ?_)).trans
      (keeps_setTrain ..)).trans (keeps_raise ..)
  · rw [State.each_setSegState_window s fun _ => .reserved n]
    simpa using s.eligible_window h
  · exact (List.length_filter_le _ _).trans hm

theorem keeps_launchUpTo (n : Nat) : Keeps x x s (State.launchUpTo n s) := by
  induction n generalizing s with
  | zero => exact .refl x s
  | succ n ih =>
    unfold State.launchUpTo
    split
    · exact .refl x s
    · next t ht => exact (keeps_launch s (List.find?_some ht)).trans (ih _)

theorem keeps_reexamine : Keeps x x s s.reexamine := keeps_launchUpTo s _

/-! ## Motion (R32 to R36) -/

theorem keeps_stall (n : Nat) (cause : StallCause) : Keeps x x s (s.stall n cause) := by
  unfold State.stall
  dsimp only
  split
  · exact (keeps_setTrain ..).trans (keeps_raise ..)
  · exact .refl x s

theorem keeps_complete (n g : Nat) : Keeps x x s (s.complete n g) := by
  unfold State.complete
  dsimp only
  have h : ∀ r, Keeps x x s ((s.setTrain n r).raise .yrd .moveDone (.number n)) := fun r =>
    (keeps_setTrain s n r).trans (keeps_raise ..)
  split
  · exact h _
  · split
    · exact (h _).trans (keeps_clearTrain ..)
    · exact (h _).trans (keeps_nameTrain ..)

theorem keeps_judgeComplete (n : Nat) : Keeps x x s (s.judgeComplete n) := by
  unfold State.judgeComplete
  dsimp only
  split
  · exact .refl x s
  · split
    · exact keeps_complete ..
    · exact .refl x s

theorem keeps_releaseBehind (n g : Nat) : Keeps x x s (s.releaseBehind n g) :=
  (((keeps_setSegState s g _).trans (keeps_setTrain ..)).trans (keeps_reexamine _)).trans (keeps_judgeComplete ..)

theorem keeps_enter (n g : Nat) : Keeps x x s (s.enter n g) := (keeps_setSegState s g _).trans (keeps_setTrain ..)

theorem keeps_acceptEntry (n g : Nat) : Keeps x x s (s.acceptEntry n g) :=
  (((keeps_enter s n g).trans (keeps_setTrain ..)).trans
    (Keeps.each (fun h q => keeps_releaseBehind q n h) _ _)).trans (keeps_judgeComplete ..)

theorem keeps_raiseIntrusion (g : Nat) : Keeps x x s (s.raiseIntrusion g) :=
  (keeps_raise s ..).trans (keeps_raise ..)

theorem keeps_entryEdge (g : Nat) : Keeps x x s (s.entryEdge g) := by
  unfold State.entryEdge
  dsimp only
  split
  · exact (keeps_setSegState ..).trans (keeps_raiseIntrusion ..)
  · exact .refl x s
  · exact .refl x s
  · exact .ite (fun _ => .ite (fun _ => keeps_acceptEntry ..) fun _ => keeps_enter ..) fun _ =>
      .ite (fun _ => keeps_stall ..) fun _ =>
        ((keeps_setSegState ..).trans (keeps_raiseIntrusion ..)).trans (keeps_stall ..)

theorem keeps_leaveEdge (g : Nat) : Keeps x x s (s.leaveEdge g) := by
  unfold State.leaveEdge
  split
  · split
    · exact .refl x s
    · exact keeps_releaseBehind ..
  · exact .refl x s
  · exact .refl x s
  · exact .refl x s

theorem keeps_takeEdge (g : Nat) (l : SegLayout) : Keeps x x s (s.takeEdge g l) := by
  unfold State.takeEdge
  dsimp only
  split
  · exact (keeps_setSeg ..).trans (keeps_entryEdge ..)
  · exact (keeps_setSeg ..).trans (keeps_leaveEdge ..)

/-- A change of every segment record. -/
theorem keeps_mapSegs (f : Nat → Segment → Segment) :
    Keeps x x s { s with yard := { s.yard with segs := Tab.mapAll Segment.undefined f s.yard.segs } } where
  segTable := Tab.wf_mapAll _ _ _

theorem keeps_haltTrain (n : Nat) : Keeps x x s (s.haltTrain n) := (keeps_mapSegs s _).trans (keeps_setTrain ..)

theorem keeps_unqueue (n : Nat) : Keeps x x s (s.unqueue n) :=
  (keeps_setMoves s _ fun h => (List.length_filter_le _ _).trans h).trans (keeps_setTrain ..)

end Sys2Proof.Machine
end

section
/-! What the operations of the outbound queue, of a begin and of the presentation unit keep. -/

namespace Sys2Proof.Machine

-- One declaration after another, within the memory that a check of the whole text has.
set_option Elab.async false

variable {x : Option Nat} (s : State)

/-! ## The order of the outbound queue (R171, R172) -/

theorem RepliesFirst.nil : RepliesFirst [] := ⟨by simp, nofun, by simp⟩

theorem RepliesFirst.of_sublist {h : OutPlace} {t r : List OutPlace} (hq : RepliesFirst (h :: t)) (hr : r.Sublist t) :
    RepliesFirst (h :: r) where
  behind := hq.behind.sublist hr
  head := fun a u he hs hn b hb => by
    cases he
    exact hq.head h t rfl hs hn b (hr.subset hb)
  fresh := fun b hb => hq.fresh b (hr.subset hb)

theorem RepliesFirst.tail {h : OutPlace} {t : List OutPlace} (hq : RepliesFirst (h :: t)) : RepliesFirst t where
  behind := hq.behind.sublist (List.tail_sublist t)
  head := fun a u he _ hn b hb => by
    subst he
    have hp := (List.pairwise_cons.1 hq.behind).1 b hb
    cases hbr : b.frame.isReply with
    | false => rfl
    | true => exact absurd (hp hbr) (by simp [hn])
  fresh := fun b hb => hq.fresh b (List.mem_of_mem_tail hb)

theorem mem_insertReply {p b : OutPlace} {q : List OutPlace} (h : b ∈ insertReply p q) : b = p ∨ b ∈ q := by
  induction q with
  | nil => simpa [insertReply] using h
  | cons a t ih =>
    simp only [insertReply] at h
    split at h
    · rcases List.mem_cons.1 h with rfl | h
      · exact .inr (by simp)
      · exact (ih h).imp_right fun hm => by simp [hm]
    · simpa using h

theorem insertReply_pairwise {p : OutPlace} {q : List OutPlace} (hp : p.frame.isReply = true)
    (hq : q.Pairwise fun a b => b.frame.isReply = true → a.frame.isReply = true) :
    (insertReply p q).Pairwise fun a b => b.frame.isReply = true → a.frame.isReply = true := by
  induction q with
  | nil => simp [insertReply]
  | cons a t ih =>
    have ha := List.pairwise_cons.1 hq
    simp only [insertReply]
    split
    · next hr => exact List.pairwise_cons.2 ⟨fun b _ _ => hr, ih ha.2⟩
    · exact List.pairwise_cons.2 ⟨fun b _ _ => hp, hq⟩

/-- The queue that a frame joins keeps its order (R171). -/
theorem joinQueue_repliesFirst {f : OutFrame} {q : List OutPlace} (hq : RepliesFirst q) :
    RepliesFirst (joinQueue f q) := by
  cases hf : f.isReply with
  | false =>
    rw [joinQueue_broadcast f q hf]
    cases q with
    | nil => exact ⟨by simp, fun a t he _ _ => by cases he; simp, by simp⟩
    | cons h t =>
      refine ⟨?_, fun a u he hs hn b hb => ?_, fun b hb => ?_⟩
      · exact List.pairwise_append.2 ⟨hq.behind, by simp, by simp [hf]⟩
      · cases he
        rcases List.mem_append.1 hb with hb | hb
        · exact hq.head h t rfl hs hn b hb
        · obtain rfl := List.mem_singleton.1 hb; exact hf
      · rcases List.mem_append.1 hb with hb | hb
        · exact hq.fresh b hb
        · obtain rfl := List.mem_singleton.1 hb; rfl
  | true =>
    cases q with
    | nil => simpa [joinQueue, hf] using ⟨by simp, fun a t he _ _ => by cases he; simp, by simp⟩
    | cons h t =>
      have hfresh : ∀ b ∈ insertReply { frame := f, sent := 0 } t, b.sent = 0 := fun b hb => by
        rcases mem_insertReply hb with rfl | hb
        · rfl
        · exact hq.fresh b hb
      simp only [joinQueue, hf, if_true]
      by_cases hs : h.sent = 0
      · simp only [hs, if_true, insertReply]
        by_cases hr : h.frame.isReply = true
        · simp only [hr, if_true]
          exact ⟨insertReply_pairwise hf hq.behind, fun a u he _ hn => by cases he; simp [hr] at hn, hfresh⟩
        · simp only [hr]
          have hb := hq.head h t rfl hs (by simpa using hr)
          refine ⟨List.pairwise_cons.2 ⟨fun b hm hbr => ?_, hq.behind⟩, fun a u he _ hn => by cases he; simp [hf] at hn,
            fun b hm => ?_⟩
          · simp [hb b hm] at hbr
          · rcases List.mem_cons.1 hm with rfl | hm
            · exact hs
            · exact hq.fresh b hm
      · simp only [hs, if_false]
        exact ⟨insertReply_pairwise hf hq.behind, fun a u he h0 _ => by cases he; exact absurd h0 hs, hfresh⟩

theorem dropAnnounce_sublist {q r : List OutPlace} {c k : Nat} (h : dropAnnounce q = some (c, k, r)) :
    r.Sublist q := by
  induction q generalizing r with
  | nil => simp [dropAnnounce] at h
  | cons a t ih =>
    rw [dropAnnounce_cons] at h
    split at h
    · obtain ⟨rfl, rfl, rfl⟩ : _ ∧ _ ∧ _ := by simpa using h
      exact List.sublist_cons_self a _
    · obtain ⟨⟨c', k', r'⟩, h1, h2⟩ := Option.map_eq_some_iff.1 h
      obtain ⟨rfl, rfl, rfl⟩ : _ ∧ _ ∧ _ := by simpa using h2
      exact (ih h1).cons_cons a

theorem dropAnnounce_repliesFirst {q r : List OutPlace} {c k : Nat} (h : dropAnnounce q = some (c, k, r))
    (hq : RepliesFirst q) : RepliesFirst r := by
  cases q with
  | nil => simp [dropAnnounce] at h
  | cons a t =>
    rw [dropAnnounce_cons] at h
    split at h
    · obtain ⟨rfl, rfl, rfl⟩ : _ ∧ _ ∧ _ := by simpa using h
      exact hq.tail
    · obtain ⟨⟨c', k', r'⟩, h1, h2⟩ := Option.map_eq_some_iff.1 h
      obtain ⟨rfl, rfl, rfl⟩ : _ ∧ _ ∧ _ := by simpa using h2
      exact hq.of_sublist (dropAnnounce_sublist h1)

/-- An ANNOUNCE that is displaced is one on a place of its own, and the order is kept (R172). -/
theorem displaceFrom_keeps {b : Bool} {q r : List OutPlace} {c k : Nat} (h : displaceFrom b q = some (c, k, r)) :
    r.length + 1 = q.length ∧ (RepliesFirst q → RepliesFirst r) := by
  unfold displaceFrom at h
  split at h
  · obtain ⟨⟨c', k', r'⟩, h1, h2⟩ := Option.map_eq_some_iff.1 h
    obtain ⟨rfl, rfl, rfl⟩ : _ ∧ _ ∧ _ := by simpa using h2
    exact ⟨by simpa using dropAnnounce_length h1, fun hq => hq.of_sublist (dropAnnounce_sublist h1)⟩
  · exact ⟨dropAnnounce_length h, dropAnnounce_repliesFirst h⟩

/-! ## Placing a frame (R171 to R173, R177) -/

theorem unannounce_length (k : Nat) (q : List QEntry) : (unannounce k q).length = q.length := List.length_map _

theorem keeps_displaced (c k : Nat) : Keeps x x s (s.displaced c k) := by
  unfold State.displaced
  dsimp only
  split
  · exact .refl x s
  · exact .ite (fun _ => keeps_setPres s c _ fun h => (unannounce_length k _).le.trans h) fun _ =>
      .ite (fun _ => keeps_setPres_same s c _) fun _ => .refl x s

theorem keeps_displaceFor {f : OutFrame} {t : State} (h : s.displaceFor f = some t) : Keeps x x s t := by
  unfold State.displaceFor at h
  split at h
  · split at h
    · cases h
    · next c k q hq =>
      obtain rfl := Option.some.inj h
      obtain ⟨hlen, hord⟩ := displaceFrom_keeps hq
      refine (keeps_setOutbound s (joinQueue f q) (fun hl => ?_) fun ho =>
        joinQueue_repliesFirst (hord ho)).trans (keeps_displaced ..)
      rw [joinQueue_length]
      omega
  · cases h

theorem keeps_offer {f : OutFrame} {t : State} (h : s.offer f = some t) : Keeps x x s t := by
  unfold State.offer at h
  split at h
  · next hroom =>
    obtain rfl := Option.some.inj h
    refine keeps_setOutbound s _ (fun _ => ?_) joinQueue_repliesFirst
    rw [joinQueue_length]
    exact hroom
  · exact keeps_displaceFor s h

theorem keeps_offer_getD (f : OutFrame) : Keeps x x s ((s.offer f).getD s) := by
  cases h : s.offer f with
  | none => exact .refl x s
  | some t => exact keeps_offer s h

theorem keeps_offerReply (d : Nat) (code : DeskCode) (c : Option Nat) (tag : Nat) (e : ReplyDetail) :
    Keeps x x s (s.offerReply d code c tag e) := by
  unfold State.offerReply
  dsimp only
  refine .ite (fun _ => keeps_offer_getD s _) fun _ => ?_
  cases h : s.displaceFor (.reply d code c tag e) with
  | none => exact .refl x s
  | some t => exact keeps_displaceFor s h

/-- A displaced lot changes announce records alone. -/
theorem State.displaced_frame (c k : Nat) : ∃ p, s.displaced c k = { s with pres := p } := by
  unfold State.displaced
  dsimp only
  split
  · exact ⟨_, rfl⟩
  · split
    · exact ⟨_, rfl⟩
    · split <;> exact ⟨_, rfl⟩

theorem State.displaceFor_frame {f : OutFrame} {t : State} (h : s.displaceFor f = some t) :
    ∃ q p, t = { s with line := { s.line with outbound := q }, pres := p } := by
  unfold State.displaceFor at h
  split at h
  · split at h
    · cases h
    · next c k q _ =>
      obtain ⟨p, hp⟩ := (s.setOutbound (joinQueue f q)).displaced_frame c k
      exact ⟨_, p, (Option.some.inj h).symm.trans hp⟩
  · cases h

/-- An offer that is taken changes the outbound queue and announce records alone (R51, R172). -/
theorem State.offer_frame {f : OutFrame} {t : State} (h : s.offer f = some t) :
    ∃ q p, t = { s with line := { s.line with outbound := q }, pres := p } := by
  unfold State.offer at h
  split at h
  · exact ⟨_, s.pres, (Option.some.inj h).symm⟩
  · exact s.displaceFor_frame h

theorem State.offer_getD_frame (f : OutFrame) :
    ∃ q p, (s.offer f).getD s = { s with line := { s.line with outbound := q }, pres := p } := by
  cases h : s.offer f with
  | none => exact ⟨s.line.outbound, s.pres, rfl⟩
  | some t => exact s.offer_frame h

/-- A reply that is offered changes the outbound queue and announce records alone (R51, R172). -/
theorem State.offerReply_frame (d : Nat) (code : DeskCode) (c : Option Nat) (tag : Nat) (e : ReplyDetail) :
    ∃ q p, s.offerReply d code c tag e = { s with line := { s.line with outbound := q }, pres := p } := by
  unfold State.offerReply
  dsimp only
  split
  · exact s.offer_getD_frame _
  · cases h : s.displaceFor (.reply d code c tag e) with
    | none => exact ⟨s.line.outbound, s.pres, rfl⟩
    | some t => exact s.displaceFor_frame h

theorem keeps_joinWait (who : Producer) (kind : WaitKind) : Keeps x x s (s.joinWait who kind) := by
  unfold State.joinWait
  exact .ite (fun _ => keeps_setWaits ..) fun _ => keeps_setWaits ..

theorem keeps_leaveWait (who : Producer) : Keeps x x s (s.leaveWait who) := keeps_setWaits ..

/-! ## Reservations (R71, R76, R151) -/

theorem Clock.Reserves.reserve {k : Clock} (h : k.Reserves) : Clock.Reserves { k with reserved := true } :=
  ⟨fun _ _ => rfl, fun _ => rfl, fun _ => rfl, h.halt⟩

theorem keeps_judgeLow : Keeps x x s s.judgeLow := by
  unfold State.judgeLow
  exact .ite (fun _ => (keeps_raise ..).trans (keeps_raise ..)) fun _ => .refl x s

/-- Clock `c` is written with a reservation that it did not hold, and the reserved count rises. -/
theorem keeps_reserve (c : Nat) (hr : (s.clock c).reserved = false) (hfull : s.journalIsFull = false) :
    Keeps x x s ((s.setValues { s.values with reserved := s.values.reserved + 1 }).setClock c
      { s.clock c with reserved := true }) where
  clockTable := Tab.wf_set _ _ _ _
  reserved := fun _ hs =>
    { table := Tab.wf_set _ _ _ _ hs.table
      counted := by
        have h := Tab.countP_set hs.table c { s.clock c with reserved := true } (fun k => k.reserved) rfl
        have hg : (Tab.get Clock.reset s.clocks c).reserved = false := hr
        have hcount : s.values.reserved = s.clocks.countP fun k => k.2.reserved := hs.counted
        simp only [hg, Bool.false_eq_true, if_false, if_true, add_zero] at h
        exact (congrArg (· + 1) hcount).trans h.symm
      free := by
        have h : ¬8192 ≤ s.values.used + s.values.reserved := by
          exact of_decide_eq_false hfull
        change s.values.used + (s.values.reserved + 1) ≤ 8192
        omega
      sells := fun d hd => by
        rw [State.setClock_clocks, Tab.get_set]
        split
        · next he => subst he; exact (hs.sells d hd).reserve
        · exact hs.sells d hd
      halts := fun d => by
        rw [State.setClock_clocks, Tab.get_set]
        split
        · next he => subst he; exact hs.halts d
        · exact hs.halts d }

theorem keeps_takeReservation (c : Nat) (h : (s.clock c).reserved = true ∨ s.journalIsFull = false) :
    Keeps x x s (s.takeReservation c) := by
  unfold State.takeReservation
  dsimp only
  refine .ite (fun _ => .refl x s) fun hr => ?_
  have hr : (s.clock c).reserved = false := by simpa using hr
  exact (keeps_reserve s c hr (h.resolve_left (by simp [hr]))).trans (keeps_judgeLow _)

theorem State.judgeLow_frame : ∃ p, s.judgeLow = { s with ports := p } := by
  unfold State.judgeLow
  split
  · obtain ⟨p, h1, -⟩ := s.raise_ports .fin .journalLow (.number (Config.journalSize - s.journalSum))
    obtain ⟨q, h2, -⟩ := (s.raise .fin .journalLow (.number (Config.journalSize - s.journalSum))).raise_ports .auc
      .journalLow (.number (Config.journalSize - s.journalSum))
    exact ⟨q, h2.trans (by rw [h1])⟩
  · exact ⟨_, rfl⟩

theorem State.takeReservation_clock (c : Nat) : (s.takeReservation c).clock c = { s.clock c with reserved := true } := by
  unfold State.takeReservation
  dsimp only
  split
  · next h => simp [← h]
  · obtain ⟨p, hp⟩ := ((s.setValues { s.values with reserved := s.values.reserved + 1 }).setClock c
      { s.clock c with reserved := true }).judgeLow_frame
    rw [hp]
    exact State.setClock_clock_same _ c _

theorem Reserved.exempt {j : Journal} {t : Tab Clock} (h : Reserved none j t) (c : Nat) : Reserved (some c) j t :=
  { h with sells := fun d _ => h.sells d nofun }

/-- Clock `c` gives its reservation up. It need not hold one until it has let go of its sale. -/
theorem keeps_giveUpReservation (c : Nat) : Keeps none (some c) s (s.giveUpReservation c) := by
  unfold State.giveUpReservation
  dsimp only
  split
  · next hr =>
    exact
    { clockTable := Tab.wf_set _ _ _ _
      reserved := fun _ hs => by
        have h := Tab.countP_set hs.table c { s.clock c with reserved := false } (fun k => k.reserved) rfl
        have hg : (Tab.get Clock.reset s.clocks c).reserved = true := hr
        have hcount : s.values.reserved = s.clocks.countP fun k => k.2.reserved := hs.counted
        have hfree : s.values.used + s.values.reserved ≤ 8192 := hs.free
        simp only [hg, Bool.false_eq_true, if_false, if_true, add_zero] at h
        refine ⟨Tab.wf_set _ _ _ _ hs.table, ?_, ?_, fun d hd => ?_, fun d => ?_⟩
        · change s.values.reserved - 1 = _
          rw [hcount, ← h]
          rfl
        · change s.values.used + (s.values.reserved - 1) ≤ 8192
          omega
        · rw [State.setClock_clocks, Tab.get_set, if_neg fun he : d = c => hd (he ▸ rfl)]
          exact hs.sells d nofun
        · rw [State.setClock_clocks, Tab.get_set]
          split
          · next he => subst he; exact hs.halts d
          · exact hs.halts d }
  · exact { reserved := fun _ hs => hs.exempt c }

/-! ## Beginning a run (R71 to R73) -/

theorem keeps_takeBegin (c : Nat) (kind : BeginKind) (price reserve start : Nat)
    (h : kind = .rehearsal ∨ (s.clock c).reserved = true ∨ s.journalIsFull = false) :
    Keeps none none s (s.takeBegin c kind price reserve start) := by
  have key : ∀ u : State, (kind ≠ .rehearsal → (u.clock c).reserved = true) → ∀ k p, k.state = .running →
      k.rehearsalRun = (kind == .rehearsal) → k.reserved = (u.clock c).reserved → k.winner = (u.clock c).winner →
      k.waitHalt = (u.clock c).waitHalt → p.queue = ((u.setClock c k).presOf c).queue →
      Keeps none none u ((u.setClock c k).setPres c p) := fun u hu k p hstate hrun hres hwin hhalt hq => by
    refine (keeps_setClock u c k (fun hk => ⟨fun _ hr => ?_, ?_, ?_, fun _ => hstate⟩) hres).trans
      (keeps_setPres _ c p (by rw [hq]; exact id))
    · rw [hres]
      exact hu fun hkind => by simp [hrun, hkind] at hr
    · rw [hres, hwin]; exact hk.sale
    · rw [hres, hhalt]; exact hk.candidate
  unfold State.takeBegin
  dsimp only
  by_cases hkind : kind = .rehearsal
  · rw [if_pos hkind]
    exact key s (fun hne => absurd hkind hne) _ _ rfl rfl rfl rfl rfl rfl
  · rw [if_neg hkind]
    exact (keeps_takeReservation s c (h.resolve_left hkind)).trans
      (key _ (fun _ => by rw [State.takeReservation_clock]) _ _ rfl rfl rfl rfl rfl rfl)

theorem keeps_setWaitBegin (c : Nat) (w : Option WaitBegin) :
    Keeps x x s (s.setClock c { s.clock c with waitBegin := w }) :=
  keeps_setClock_from s c _
    (fun hx h _ => by exact ⟨(h hx).run, (h hx).sale, (h hx).candidate, (h hx).halt⟩) (fun _ => id) fun _ _ => id

theorem keeps_beginRun (c : Nat) (kind : BeginKind) : Keeps none none s (s.beginRun c kind).2 := by
  unfold State.beginRun
  dsimp only
  split
  · exact .refl _ s
  · split
    · exact .refl _ s
    · next hj =>
      split
      · next s1 ho =>
        obtain ⟨q, p, rfl⟩ := s.offer_frame ho
        refine (keeps_offer s ho).trans (keeps_takeBegin _ c kind _ _ _ ?_)
        change kind = .rehearsal ∨ (s.clock c).reserved = true ∨ s.journalIsFull = false
        grind
      · exact ((keeps_setWaitBegin s c (some { kind := kind, start := startPosition (s.clock c) kind })).trans (keeps_setPres_same _ c _)).trans (keeps_joinWait ..)

theorem keeps_dropBegin (c : Nat) : Keeps x x s (s.dropBegin c) := by
  unfold State.dropBegin
  dsimp only
  split
  · exact .refl _ s
  · exact (keeps_setWaitBegin s c none).trans (keeps_leaveWait ..)

theorem keeps_raisePaused (c : Nat) : Keeps none none s (s.raisePaused c) := keeps_raise ..

theorem keeps_pauseAt (c start : Nat) (cause : PauseCause) : Keeps none none s (s.pauseAt c start cause) :=
  keeps_setClock s c _ fun h =>
    ⟨fun hr => by simp at hr, h.sale, fun ⟨_, hc, _⟩ => by simp at hc, nofun⟩

theorem keeps_restartFailed (c : Nat) (cause : PauseCause) : Keeps none none s (s.restartFailed c cause) :=
  (keeps_pauseAt s c _ cause).trans (keeps_raisePaused ..)

theorem keeps_beginPending (c : Nat) : Keeps none none s (s.beginPending c) := by
  have h := keeps_beginRun s c .startPending
  have hfail := (h.trans (keeps_setPres_same _ c { (s.beginRun c .startPending).2.presOf c with pending := none })).trans
    (keeps_raisePaused _ c)
  unfold State.beginPending
  dsimp only
  split
  · exact h
  · exact h
  · exact hfail
  · exact hfail

theorem keeps_judgeStart (c : Nat) : Keeps none none s (s.judgeStart c) :=
  .ite (fun _ => keeps_beginPending s c) fun _ => .refl _ s

/-- A clock that has let go sells nothing. -/
theorem Clock.reserves_of_idle {k : Clock} (h1 : k.state = .idle) (h2 : k.winner = none) (h3 : k.waitHalt = none) :
    k.Reserves :=
  ⟨fun h => by simp [h1] at h, fun ⟨_, h, _⟩ => by simp [h2] at h, fun ⟨_, h, _⟩ => by simp [h3] at h,
    fun h => by simp [h3] at h⟩

/-- The clock that was left out is none that is left out after it has been written. -/
theorem closes_exempt (c : Nat) : ∀ d, d ≠ c → none ≠ some d → some c ≠ some d :=
  fun _ hd _ he => hd (Option.some.inj he).symm

theorem keeps_letGo {y : Option Nat} (c : Nat) (hxy : ∀ d, d ≠ c → y ≠ some d → x ≠ some d) :
    Keeps x y s (s.letGo c) :=
  (keeps_setClock_from s c _ (fun _ _ _ => Clock.reserves_of_idle rfl rfl rfl) (fun _ _ h => by cases h) hxy).trans (keeps_setPres_same _ c _)

/-! ## The presentation unit (R47 to R60) -/

theorem keeps_setRotation (n : Nat) : Keeps none none s { s with rotation := n } := { }

theorem announced_length (t k : Nat) (q : List QEntry) : (announced t k q).length = q.length := List.length_map _

theorem keeps_placedAnnounce (c position k : Nat) : Keeps none none s (s.placedAnnounce c position k) := by
  unfold State.placedAnnounce
  dsimp only
  refine (keeps_setRotation s ((c + 1) % Config.clocks)).trans (.ite (fun _ => ?_) fun _ => ?_)
  · exact (keeps_setPres_same _ c _).trans (keeps_judgeStart _ c)
  · have hp : ((({ s with rotation := (c + 1) % Config.clocks } : State).setLotState k .announced).presOf c).queue =
        (({ s with rotation := (c + 1) % Config.clocks } : State).presOf c).queue := by
      obtain ⟨l, hl⟩ := ({ s with rotation := (c + 1) % Config.clocks } : State).updLot_frame k
        fun r => { r with state := .announced }
      unfold State.setLotState
      rw [hl]
      rfl
    exact (keeps_setLotState _ k .announced).trans
      (keeps_setPres _ c _ fun h => by rw [hp] at h; exact (announced_length ..).le.trans h)

theorem keeps_announceStep : Keeps none none s s.announceStep.2 := by
  unfold State.announceStep
  split
  · exact .refl _ s
  · split
    · exact .refl _ s
    · split
      · exact .refl _ s
      · next s1 ho => exact (keeps_offer s ho).trans (keeps_placedAnnounce ..)

theorem keeps_announceUpTo (n : Nat) : Keeps none none s (State.announceUpTo n s) := by
  induction n generalizing s with
  | zero => exact .refl _ s
  | succ n ih =>
    unfold State.announceUpTo
    dsimp only
    split
    · exact .refl _ s
    · exact (keeps_announceStep s).trans (ih _)
    · exact keeps_joinWait ..

theorem keeps_announceAll : Keeps none none s s.announceAll :=
  .ite (fun _ => .refl _ s) fun _ => keeps_announceUpTo s _

/-- A clock that is not running takes a lot. -/
theorem keeps_loadClock (c l : Nat) (h : (s.clock c).state = .idle) :
    Keeps none none s (s.setClock c { s.clock c with state := .loaded, lot := some l }) :=
  keeps_setClock s c _ fun hk =>
    ⟨fun hr => by simp at hr, hk.sale, hk.candidate, fun hw => by simpa [h] using hk.halt hw⟩

theorem State.setLotState_frame (k : Nat) (q : LotState) : ∃ l, s.setLotState k q = { s with lots := l } :=
  s.updLot_frame k _

theorem keeps_load (c : Nat) (h : (s.clock c).state = .idle) : Keeps none none s (s.load c) := by
  unfold State.load
  dsimp only
  split
  · exact .refl _ s
  · next e rest hq =>
    obtain ⟨l, hl⟩ := (s.setPres c
      { s.presOf c with queue := rest, current := e.announce, unrun := true, ready := none }).setLotState_frame e.lot .onClock
    refine (((keeps_setPres s c _ fun hle => ?_).trans (keeps_setLotState _ e.lot .onClock)).trans
      (keeps_loadClock _ c e.lot ?_)).trans (keeps_fill ..)
    · rw [hq] at hle
      exact (Nat.le_succ _).trans hle
    · rw [hl]; exact h

theorem keeps_autoLoad (quiet : Option Nat) (c : Nat) (h : (s.clock c).state = .idle) :
    Keeps none none s (s.autoLoad quiet c) := by
  unfold State.autoLoad
  dsimp only
  exact .ite (fun _ => ((keeps_load s c h).trans (keeps_setPres_same _ c _)).trans (keeps_judgeStart ..))
    fun _ => keeps_load s c h

theorem keeps_advanceClock (quiet : Option Nat) (c : Nat) : Keeps none none s (s.advanceClock quiet c) := by
  unfold State.advanceClock
  dsimp only
  split
  · exact keeps_setPres_same s c _
  · next l hl =>
    have hidle : (s.clock c).state = .idle := by
      by_contra hne
      simp [hne] at hl
    exact .ite (fun _ => keeps_autoLoad s quiet c hidle) fun _ => .ite (fun _ => .refl _ s) fun _ =>
      (keeps_setPres_same s c _).trans (keeps_raise ..)

theorem keeps_judgeClocks (quiet : Option Nat) : Keeps none none s (s.judgeClocks quiet) :=
  Keeps.each (fun c q => keeps_advanceClock q quiet c) _ s

theorem keeps_settlePass (quiet : Option Nat) : Keeps none none s (s.settlePass quiet) :=
  (keeps_announceAll s).trans (keeps_judgeClocks ..)

theorem keeps_settleQuiet (quiet : Option Nat) : Keeps none none s (s.settleQuiet quiet) :=
  (keeps_settlePass s quiet).trans (keeps_settlePass ..)

theorem keeps_settle : Keeps none none s s.settle := keeps_settleQuiet s none

/-- A write of the lot's state leaves every queue. -/
theorem State.setLotState_presOf (k : Nat) (q : LotState) (c : Nat) : (s.setLotState k q).presOf c = s.presOf c := by
  obtain ⟨l, hl⟩ := s.setLotState_frame k q
  rw [hl]
  rfl

theorem keeps_reOffer (c k : Nat) : Keeps x x s (s.reOffer c k) := by
  unfold State.reOffer
  dsimp only
  refine .ite (fun hroom => ?_) fun _ => (keeps_closeLot s k .crowded).trans (keeps_fill ..)
  refine (keeps_setLotState s k .queued).trans (keeps_setPres _ c _ fun _ => ?_)
  simp only [Config.queueSize] at hroom
  simpa [joinTail] using hroom

theorem keeps_giveBack (c k : Nat) (h : (s.presOf c).queue.length < 8) : Keeps x x s (s.giveBack c k) :=
  ((keeps_setLotState s k .queued).trans (keeps_setPres _ c _ fun _ => by simpa [joinHead] using h)).trans
    (keeps_fill ..)

theorem keeps_leaveQueue (c k : Nat) : Keeps x x s (s.leaveQueue c k) :=
  (keeps_setPres s c _ fun h => (List.length_filter_le _ _).trans h).trans (keeps_fill ..)

end Sys2Proof.Machine
end

section
/-! What the halts, the settle window, the sale, the void and the grants of places keep. -/

namespace Sys2Proof.Machine

-- One declaration after another, within the memory that a check of the whole text has.
set_option Elab.async false

variable {x : Option Nat} (s : State)

/-! ## Clocks that are written without their run, winner or waiting halt -/

/-- What a clock must reserve is read from five of its fields. -/
theorem Clock.Reserves.of_same {k j : Clock} (h : k.Reserves) (h1 : j.state = k.state := by rfl)
    (h2 : j.rehearsalRun = k.rehearsalRun := by rfl) (h3 : j.reserved = k.reserved := by rfl)
    (h4 : j.winner = k.winner := by rfl) (h5 : j.waitHalt = k.waitHalt := by rfl) : j.Reserves := by
  refine ⟨?_, ?_, ?_, ?_⟩
  · rw [h1, h2, h3]; exact h.run
  · rw [h3, h4]; exact h.sale
  · rw [h3, h5]; exact h.candidate
  · rw [h1, h5]; exact h.halt

theorem keeps_setPausePending (c : Nat) (cause : PauseCause) : Keeps none none s (s.setPausePending c cause) := by
  unfold State.setPausePending
  exact .ite (fun _ => .refl _ s) fun _ => keeps_setClock s c _ fun h => h.of_same

theorem keeps_endRehearsal (c : Nat) : Keeps none none s (s.endRehearsal c) :=
  keeps_setClock s c _ fun _ => Clock.reserves_of_idle rfl rfl rfl

/-! ## Halts (R76 to R81) -/

theorem keeps_offerHalt {c : Nat} {r : HaltReason} {t : State} (h : s.offerHalt c r = some t) : Keeps x x s t :=
  keeps_offer s h

theorem keeps_offerHalt_getD (c : Nat) (r : HaltReason) : Keeps x x s ((s.offerHalt c r).getD s) :=
  keeps_offer_getD s _

theorem State.offerHalt_frame {c : Nat} {r : HaltReason} {t : State} (h : s.offerHalt c r = some t) :
    ∃ q p, t = { s with line := { s.line with outbound := q }, pres := p } := s.offer_frame h

/-- A halt waits on a RUNNING clock; a candidate with a buyer waits on one that holds a reservation. -/
theorem keeps_holdHalt (c : Nat) (w : WaitHalt) (hrun : (s.clock c).state = .running)
    (hcand : (s.clock c).Reserves → hasBuyer w.candidate → (s.clock c).reserved = true) :
    Keeps none none s (s.holdHalt c w) :=
  (keeps_setClock s c _ fun h => by exact ⟨h.run, h.sale, hcand h, fun _ => hrun⟩).trans (keeps_joinWait ..)

theorem not_hasBuyer_none : ¬hasBuyer none := fun ⟨_, h, _⟩ => by cases h

theorem keeps_runoutLot (c k : Nat) : Keeps x x s (s.runoutLot c k) := by
  unfold State.runoutLot
  split
  · exact .refl _ s
  · next r hr =>
    have h : Keeps x x s (s.setLot k (some { r with runouts := r.runouts + 1 })) := keeps_setLot s k _ fun hs q hq => by
      obtain rfl := Option.some.inj hq
      exact hs r hr
    exact .ite (fun _ => h.trans (keeps_reOffer ..)) fun _ => h.trans (keeps_closeLot ..)

theorem keeps_takeRunout (c : Nat) : Keeps none none s (s.takeRunout c) := by
  unfold State.takeRunout
  dsimp only
  refine .ite (fun _ => (keeps_endRehearsal s c).trans (keeps_raise ..)) fun _ => ?_
  have hlot : Keeps (some c) (some c) (s.giveUpReservation c)
      (match (s.clock c).lot with
        | none => s.giveUpReservation c
        | some l => (s.giveUpReservation c).runoutLot c l) := by
    split
    · exact .refl _ _
    · exact keeps_runoutLot ..
  exact ((((keeps_giveUpReservation s c).trans hlot).trans (keeps_letGo _ c (closes_exempt c))).trans
    (keeps_setClock _ c _ fun h => h.of_same)).trans (keeps_raise ..)

theorem keeps_takePause (c : Nat) (cause : PauseCause) (told : Bool) : Keeps none none s (s.takePause c cause told) := by
  unfold State.takePause
  exact .ite (fun _ => keeps_endRehearsal s c) fun _ =>
    .ite (fun _ => (keeps_pauseAt ..).trans (keeps_raisePaused ..)) fun _ => keeps_pauseAt ..

theorem keeps_pauseRunning (c : Nat) (cause : PauseCause) (hrun : (s.clock c).state = .running) :
    Keeps none none s (s.pauseRunning c cause) := by
  unfold State.pauseRunning
  dsimp only
  split
  · split
    · next s1 ho => exact (keeps_offerHalt s ho).trans (keeps_takePause ..)
    · exact keeps_holdHalt s c _ hrun fun _ h => absurd h not_hasBuyer_none
  · split
    · exact .refl _ s
    · exact .refl _ s
    · exact .ite (fun _ => .refl _ s) fun _ => keeps_setPausePending ..

/-! ## Judging a stop (R85, R97, R98) -/

/-- A stop that passes the tests of the desk and its buyer passes the credit check (R97, R98). -/
theorem State.creditPasses_of_judgeBuyer {d b hold price : Nat} {r : LotRec}
    (h : s.judgeBuyer d r price = .passed b hold) : creditPasses (s.acct b) hold = true := by
  unfold State.judgeBuyer at h
  dsimp only at h
  split at h
  · cases h
  · split at h
    · cases h
    · split at h
      · cases h
      · split at h
        · next hc => cases h; exact hc
        · cases h

/-- A winner record whose buyer, if it has one, has passed the credit check. -/
def State.CanHold (s : State) (w : Winner) : Prop := ∀ b, w.buyer = some b → creditPasses (s.acct b) w.hold = true

/-- A winner record that is judged has a buyer in the run of a lot alone, and the buyer has passed the credit check. -/
theorem State.judgeWinner_ok {c d p : Nat} {w : Winner} (h : s.judgeWinner c d p = .ok w) :
    s.CanHold w ∧ (w.buyer.isSome = true → (s.clock c).rehearsalRun = false) := by
  unfold State.judgeWinner at h
  dsimp only at h
  split at h
  · cases h
    exact ⟨nofun, nofun⟩
  · next hr =>
    split at h
    · cases h
    · split at h
      · cases h
      · next hj =>
        cases h
        exact ⟨fun b hb => by cases hb; exact s.creditPasses_of_judgeBuyer hj, fun _ => by simpa using hr⟩

theorem keeps_placeWinner (w : Winner) (h : s.CanHold w) : Keeps x x s (s.placeWinner w) := by
  unfold State.placeWinner
  split
  · exact .refl _ s
  · next b hb => exact keeps_placeHold s b w.hold fun _ _ => exposureExact_add_le_of_creditPasses (h b hb)

theorem keeps_releaseWinner (w : Winner) : Keeps x x s (s.releaseWinner w) := by
  unfold State.releaseWinner
  split
  · exact .refl _ s
  · exact keeps_releaseHold ..

theorem reserves_placeWinner (w : Winner) : Reserves x x s (s.placeWinner w) := by
  unfold State.placeWinner
  split
  · exact (Keeps.refl x s).toReserves
  · exact reserves_placeHold ..

/-- A booking that may neither set OVER nor is saturated stores the account with its amounts. -/
theorem State.releaseHold_acct (b hold j : Nat) :
    ((s.releaseHold b hold).acct j).limit = (s.acct j).limit ∧
      (0 ≤ (s.acct j).heldAmt → exposureExact ((s.releaseHold b hold).acct j) ≤ exposureExact (s.acct j)) := by
  unfold State.releaseHold
  rw [State.book_quiet, State.setAcct_acct]
  split
  · next hj =>
    subst hj
    refine ⟨rfl, fun h0 => ?_⟩
    have := lessHold_le (hold := hold) h0
    change (lessHold (s.acct j) hold).openAmt + (lessHold (s.acct j) hold).billedAmt +
      (lessHold (s.acct j) hold).heldAmt ≤ _
    simp only [lessHold, exposureExact] at this ⊢
    omega
  · exact ⟨rfl, fun _ => le_refl _⟩

/-- A replacement releases one hold and places another, which was judged before (R101). -/
theorem keeps_swapWinner (old w : Winner) (h : s.CanHold w) :
    Keeps x x s ((s.releaseWinner old).placeWinner w) := by
  refine .of_within ((keeps_releaseWinner s old).toReserves.trans (reserves_placeWinner _ w)) fun hs =>
    (keeps_releaseWinner s old).trans ?_
  unfold State.placeWinner
  split
  · exact .refl _ _
  · next b hb =>
    refine keeps_placeHold _ b w.hold fun _ _ => ?_
    have hcredit := exposureExact_add_le_of_creditPasses (h b hb)
    have hheld := (hs.acct b).1
    unfold State.releaseWinner
    split
    · exact hcredit
    · next o _ =>
      obtain ⟨hlim, hexp⟩ := s.releaseHold_acct o old.hold b
      have := hexp hheld
      omega

/-! ## Taking a stop (R99 to R101) -/

theorem keeps_replyAt (c d : Nat) (code : DeskCode) (p : Nat) : Keeps x x s (s.replyAt c d code p) :=
  keeps_offerReply ..

theorem keeps_replyPlain (c d : Nat) (code : DeskCode) : Keeps x x s (s.replyPlain c d code) := keeps_offerReply ..

theorem keeps_takeStop (c : Nat) (w : Winner) (hcan : s.CanHold w)
    (hrun : (s.clock c).Reserves → (s.clock c).state = .running)
    (hbuyer : w.buyer.isSome = true → (s.clock c).rehearsalRun = false) : Keeps none none s (s.takeStop c w) := by
  have hres : (s.clock c).Reserves → hasBuyer (some w) → (s.clock c).reserved = true := fun h ⟨v, hv, hb⟩ => by
    cases hv
    exact h.run (.inl (hrun h)) (hbuyer hb)
  exact ((keeps_setClock s c _ fun h => by
    exact ⟨fun _ => h.run (.inl (hrun h)), hres h, fun h => absurd h not_hasBuyer_none, nofun⟩).trans
      (keeps_placeWinner _ w hcan)).trans (keeps_replyAt ..)

theorem keeps_joinResponses (c d : Nat) : Keeps none none s (s.joinResponses c d) := by
  unfold State.joinResponses
  exact .ite (fun _ => keeps_setClock s c _ fun h => h.of_same) fun _ => .refl _ s

theorem State.setPausePending_clock (c : Nat) (cause : PauseCause) :
    (s.setPausePending c cause).clock c =
      { s.clock c with
        pausePending := true, cause := if (s.clock c).pausePending then (s.clock c).cause else some cause } := by
  unfold State.setPausePending
  dsimp only
  split
  · next h => rw [← h]
  · rw [State.setClock_clock_same]

theorem keeps_stopRunning (c : Nat) (w : Winner) (hrun : (s.clock c).state = .running) (hcan : s.CanHold w)
    (hbuyer : w.buyer.isSome = true → (s.clock c).rehearsalRun = false) : Keeps none none s (s.stopRunning c w) := by
  have hcand : (s.clock c).Reserves → hasBuyer (some w.asCandidate) → (s.clock c).reserved = true :=
    fun h ⟨v, hv, hb⟩ => by cases hv; exact h.run (.inl hrun) (hbuyer hb)
  unfold State.stopRunning
  dsimp only
  split
  · split
    · next s1 ho =>
      obtain ⟨q, p, rfl⟩ := s.offerHalt_frame ho
      exact (keeps_offerHalt s ho).trans (keeps_takeStop _ c w hcan (fun _ => hrun) hbuyer)
    · exact keeps_holdHalt s c _ hrun hcand
  · split
    · exact keeps_holdHalt s c _ hrun hcand
    · refine (keeps_setPausePending s c _).trans (keeps_holdHalt _ c _ ?_ ?_)
      · rw [State.setPausePending_clock]; exact hrun
      · rw [State.setPausePending_clock]
        exact fun h => hcand h.of_same
    · exact keeps_holdHalt s c _ hrun hcand

/-- A release and a placing of holds change accounts and notices alone. -/
theorem State.book_frame (b : Nat) (a : Account) (sat maySet mayClear : Bool) :
    ∃ t p, s.book b a sat maySet mayClear = { s with accounts := t, ports := p } := by
  obtain ⟨z, -, -, he | he⟩ := s.book_cases b a sat maySet mayClear
  · exact ⟨_, s.ports, he⟩
  · obtain ⟨p, hp, -⟩ := (s.setAcct b z).raise_ports .sup .accountOver (.number b)
    obtain ⟨q, hq, -⟩ := ((s.setAcct b z).raise .sup .accountOver (.number b)).raise_ports .fin .accountOver (.number b)
    exact ⟨_, q, he.trans (hq.trans (by rw [hp]; rfl))⟩

theorem State.releaseWinner_frame (w : Winner) : ∃ t p, s.releaseWinner w = { s with accounts := t, ports := p } := by
  unfold State.releaseWinner
  split
  · exact ⟨_, _, rfl⟩
  · exact s.book_frame ..

theorem State.placeWinner_frame (w : Winner) : ∃ t p, s.placeWinner w = { s with accounts := t, ports := p } := by
  unfold State.placeWinner
  split
  · exact ⟨_, _, rfl⟩
  · exact s.book_frame ..

theorem keeps_replaceWinner (c : Nat) (old w : Winner) (hset : (s.clock c).state = .settling) (hcan : s.CanHold w)
    (hbuyer : w.buyer.isSome = true → (s.clock c).rehearsalRun = false) :
    Keeps none none s (s.replaceWinner c old w) := by
  obtain ⟨t, p, h1⟩ := s.releaseWinner_frame old
  obtain ⟨t', p', h2⟩ := (s.releaseWinner old).placeWinner_frame w
  have hclock : ((s.releaseWinner old).placeWinner w).clock c = s.clock c := by rw [h2, h1]; rfl
  have hres : (s.clock c).Reserves → hasBuyer (some w) → (s.clock c).reserved = true := fun h ⟨v, hv, hb⟩ => by
    cases hv
    exact h.run (.inr hset) (hbuyer hb)
  exact (((keeps_swapWinner s old w hcan).trans (keeps_setClock _ c
    { ((s.releaseWinner old).placeWinner w).clock c with winner := some w } fun h => by
      rw [hclock] at h ⊢
      exact ⟨h.run, hres h, h.candidate, h.halt⟩)).trans (keeps_replyAt ..)).trans (keeps_replyAt ..)

theorem keeps_stopSettling (c d p : Nat) (old : Winner) (hset : (s.clock c).state = .settling) :
    Keeps none none s (s.stopSettling c d p old) := by
  unfold State.stopSettling
  refine .ite (fun _ => keeps_replyAt ..) fun _ => .ite (fun _ => keeps_replyAt ..) fun _ => ?_
  split
  · exact keeps_replyPlain ..
  · next w hw =>
    obtain ⟨hcan, hbuyer⟩ := s.judgeWinner_ok hw
    exact keeps_replaceWinner s c old w hset hcan hbuyer

theorem keeps_stopCandidate (c d p : Nat) (old : Winner) (hrun : (s.clock c).state = .running) :
    Keeps none none s (s.stopCandidate c d p old) := by
  unfold State.stopCandidate
  refine .ite (fun _ => keeps_replyAt ..) fun _ => .ite (fun _ => keeps_replyAt ..) fun _ => ?_
  split
  · exact keeps_replyPlain ..
  · next w hw =>
    obtain ⟨hcan, hbuyer⟩ := s.judgeWinner_ok hw
    exact (keeps_stopRunning s c w hrun hcan hbuyer).trans (keeps_replyAt ..)

theorem keeps_stopInRun (c d p : Nat) : Keeps none none s (s.stopInRun c d p) := by
  unfold State.stopInRun
  dsimp only
  refine (keeps_joinResponses s c d).trans ?_
  generalize s.joinResponses c d = u
  split
  · next hset _ => exact keeps_stopSettling u c d p _ hset
  · next hrun _ => exact keeps_stopCandidate u c d p _ hrun
  · next hrun _ =>
    split
    · exact keeps_replyPlain ..
    · next w hw =>
      obtain ⟨hcan, hbuyer⟩ := u.judgeWinner_ok hw
      exact keeps_stopRunning u c w hrun hcan hbuyer
  · exact .refl _ u

theorem keeps_judgeStop (c p d tag : Nat) : Keeps none none s (s.judgeStop c p d tag) := by
  unfold State.judgeStop
  dsimp only
  refine .ite (fun _ => keeps_offerReply ..) fun _ => ?_
  split
  · exact keeps_offerReply ..
  · exact keeps_offerReply ..
  · exact keeps_offerReply ..
  · exact keeps_replyPlain ..
  · exact keeps_offerReply ..
  · exact .ite (fun _ => keeps_replyAt ..) fun _ => keeps_stopInRun ..
  · exact .ite (fun _ => keeps_replyAt ..) fun _ => keeps_stopInRun ..

theorem keeps_takeStopFrame (c p d tag : Nat) : Keeps none none s (s.takeStopFrame c p d tag) :=
  .ite (fun _ => keeps_judgeStop ..) fun _ => keeps_offerReply ..

/-! ## A waiting halt whose place comes (R77, R100) -/

theorem keeps_rejudgeStop (c : Nat) (h : WaitHalt) (hh : (s.clock c).waitHalt = some h) :
    Keeps none none s (s.rejudgeStop c h) := by
  unfold State.rejudgeStop
  dsimp only
  split
  · exact .refl _ s
  · next old _ =>
    split
    · next w hw =>
      obtain ⟨hcan, hbuyer⟩ := s.judgeWinner_ok hw
      refine (keeps_offerHalt_getD s c .stop).trans ?_
      obtain ⟨q, p, hf⟩ := s.offer_getD_frame (.halt c (s.clock c).tag .stop ((s.clock c).position.getD 0)
        (priceAt (s.clock c) ((s.clock c).position.getD 0)))
      change (s.offerHalt c .stop).getD s = _ at hf
      rw [hf]
      exact keeps_takeStop _ c w hcan (fun hk => hk.halt (by
        change (s.clock c).waitHalt.isSome = true
        rw [hh]; rfl)) hbuyer
    · refine .ite (fun _ => ?_) fun _ => .ite (fun _ => ?_) fun _ => ?_
      · exact ((keeps_offerHalt_getD ..).trans (keeps_takeRunout ..)).trans (keeps_offerReply ..)
      · exact ((keeps_offerHalt_getD ..).trans (keeps_takePause ..)).trans (keeps_offerReply ..)
      · exact (keeps_setClock s c _ fun hk => by
            exact ⟨hk.run, hk.sale, fun h => absurd h not_hasBuyer_none, nofun⟩).trans
          (keeps_offerReply ..)

theorem keeps_grantHalt (c : Nat) (h : WaitHalt) (hh : (s.clock c).waitHalt = some h) :
    Keeps none none s (s.grantHalt c h) := by
  unfold State.grantHalt
  split
  · exact (keeps_offerHalt_getD ..).trans (keeps_takeRunout ..)
  · exact (keeps_offerHalt_getD ..).trans (keeps_takePause ..)
  · exact keeps_rejudgeStop s c h hh

theorem keeps_warnClock (c : Nat) : Keeps none none s (s.warnClock c) := by
  unfold State.warnClock
  dsimp only
  split
  · next hrun => exact keeps_pauseRunning s c .supply hrun
  · exact keeps_setPausePending ..
  · exact keeps_setPausePending ..
  · exact .ite (fun _ => ((keeps_dropBegin ..).trans (keeps_pauseAt ..)).trans (keeps_raisePaused ..)) fun _ =>
      keeps_setPausePending ..
  · exact .refl _ s
  · exact .refl _ s
  · exact .refl _ s

/-! ## The settle expiry (R86, R103) -/

theorem keeps_takeRehearsalSale (c : Nat) (w : Winner) : Keeps none none s (s.takeRehearsalSale c w) :=
  (keeps_replyAt ..).trans (keeps_endRehearsal ..)

theorem keeps_settleRehearsal (c : Nat) (w : Winner) : Keeps none none s (s.settleRehearsal c w) := by
  unfold State.settleRehearsal
  split
  · next s1 ho => exact ((keeps_offer s ho).trans (keeps_takeRehearsalSale ..)).trans (keeps_judgeClocks ..)
  · exact (keeps_setClock s c _ fun h => h.of_same).trans (keeps_joinWait ..)

theorem keeps_settleSale (c : Nat) (w : Winner) (hset : (s.clock c).state = .settling) :
    Keeps none none s (s.settleSale c w) :=
  (keeps_setClock s c _ fun h => by
    exact ⟨fun hr => by simp at hr, h.sale, h.candidate, fun hw => by simpa [hset] using h.halt hw⟩).trans (keeps_replyAt ..)

end Sys2Proof.Machine
end

section
/-! What the commit of a sale, a void, and the grants of freed places keep. -/

namespace Sys2Proof.Machine

-- One declaration after another, within the memory that a check of the whole text has.
set_option Elab.async false

variable {x : Option Nat} (s : State)

/-! ## The journal (R150 to R152) -/

/-- The entry stands in the place after the newest, and is the newest (R152). -/
def State.entered (e : JEntry) : State :=
  (s.setPlace ((s.values.oldestPlace + s.values.used) % Config.journalSize)
    (some { e with check := entryCheck e })).setValues
      { s.values with used := s.values.used + 1, newest := some e.seq }

theorem State.append_eq (e : JEntry) :
    s.append e = (s.entered e).raise .fin .journalPending (.number (s.values.used + 1)) := rfl

theorem State.entered_places (e : JEntry) : (s.entered e).journal.places =
    Tab.set none s.journal.places ((s.values.oldestPlace + s.values.used) % Config.journalSize)
      (some { e with check := entryCheck e }) := rfl

theorem sound_append (e : JEntry) : Sound s (s.append e) := by
  rw [State.append_eq]
  exact Sound.trans (t := s.entered e) { placeTable := fun h => by rw [State.entered_places]; exact Tab.wf_set _ _ _ _ h }
    (keeps_raise (x := none) ..).toSound

/-- An entry that is appended takes a place that is not held (R152). -/
theorem keeps_append (e : JEntry)
    (h : s.isOn = true → Reserved x s.journal s.clocks → s.values.used + s.values.reserved < 8192) :
    Keeps x x s (s.append e) := by
  rw [State.append_eq]
  have hentered : Keeps x x s (s.entered e) :=
    { placeTable := fun h => by rw [State.entered_places]; exact Tab.wf_set _ _ _ _ h
      reserved := fun hon hs =>
        { hs with
          free := by
            have := h hon hs
            change s.values.used + 1 + s.values.reserved ≤ 8192
            omega }
      entries := fun hon hs k ⟨i, hi, hk⟩ => by
        have hroom := h hon hs
        change i < s.values.used at hi
        change k = (s.values.oldestPlace + i) % 8192 at hk
        refine ⟨⟨i, Nat.lt_succ_of_lt hi, hk⟩, ?_⟩
        rw [State.entered_places]
        refine Tab.get_set_other _ _ _ _ _ ?_
        simp only [Config.journalSize]
        omega }
  exact hentered.trans (keeps_raise ..)

theorem State.giveUpReservation_clock (c : Nat) :
    (s.giveUpReservation c).clock c = { s.clock c with reserved := false } := by
  unfold State.giveUpReservation
  dsimp only
  split
  · exact State.setClock_clock_same _ c _
  · next h =>
    have h : (s.clock c).reserved = false := by simpa using h
    rw [← h]

theorem State.giveUpReservation_frame (c : Nat) :
    ∃ j t, s.giveUpReservation c = { s with journal := j, clocks := t } := by
  unfold State.giveUpReservation
  dsimp only
  split <;> exact ⟨_, _, rfl⟩

/-- A reservation that is given up frees an entry. -/
theorem State.giveUpReservation_values (c : Nat) (h : (s.clock c).reserved = true) :
    (s.giveUpReservation c).values = { s.values with reserved := s.values.reserved - 1 } := by
  unfold State.giveUpReservation
  dsimp only
  rw [if_pos h]
  rfl

/-- A clock that holds a reservation is counted. -/
theorem Reserved.pos {j : Journal} {t : Tab Clock} (h : Reserved x j t) (c : Nat)
    (hc : (Tab.get Clock.reset t c).reserved = true) : 0 < j.copy1.values.reserved := by
  rw [h.counted, List.countP_pos_iff]
  rcases Tab.get_eq_or_mem Clock.reset t c with he | hm
  · rw [he] at hc; cases hc
  · exact ⟨_, hm, hc⟩

/-- The reservation of a sale is consumed by its entry (R151). -/
theorem keeps_journalCommit (c : Nat) (v : Sale) (q : Nat)
    (hres : (s.clock c).Reserves → (s.clock c).reserved = true) :
    Keeps none (some c) s (s.journalCommit c v q) := by
  obtain ⟨j, t, hf⟩ := s.giveUpReservation_frame c
  refine .of_reserved ((keeps_giveUpReservation s c).toSound.trans (sound_append _ _)) (fun hw => ?_) fun _ hr => ?_
  · have hgive : AcctsWithin (s.giveUpReservation c).accounts := by rw [hf]; exact hw
    exact (keeps_raise (x := none) ..).within hgive
  · have hc : (s.clock c).reserved = true := hres (hr.sells c nofun)
    have hpos : 0 < s.values.reserved := hr.pos c hc
    have hfree : s.values.used + s.values.reserved ≤ 8192 := hr.free
    refine ((keeps_giveUpReservation s c).trans (keeps_append _ _ fun _ _ => ?_)).toReserves
    rw [s.giveUpReservation_values c hc]
    change s.values.used + (s.values.reserved - 1) < 8192
    omega

/-! ## The quantity (R108, R125) -/

theorem emin_le_remaining (r : LotRec) : emin r ≤ r.remaining := min_le_right _ _

theorem clampQuantity_le (g : Given) (r : LotRec) : clampQuantity g r ≤ r.remaining := by
  have hq : (match g with | .takeAll => r.remaining | .stems q => min q r.remaining) ≤ r.remaining := by
    cases g with
    | takeAll => exact le_refl _
    | stems q => exact min_le_right _ _
  have key : ∀ q, q ≤ r.remaining →
      (if r.remaining % r.unit ≠ 0 ∧ q = r.remaining then q else q / r.unit * r.unit) ≤ r.remaining := fun q h => by
    split
    · exact h
    · exact (Nat.div_mul_le_self _ _).trans h
  exact max_le (key _ hq) (emin_le_remaining r)

theorem largestFit_le (fits : Nat → Bool) (base u n : Nat) : largestFit fits base u n ≤ base + n * u := by
  induction n with
  | zero => simp [largestFit]
  | succ n ih =>
    unfold largestFit
    split
    · exact le_refl _
    · exact ih.trans (by rw [Nat.succ_mul]; omega)

/-- The final stems of a sale remain in the lot (R108). -/
theorem finalStems_le (g : Given) (r : LotRec) (fits : Nat → Bool) : finalStems g r fits ≤ r.remaining := by
  unfold finalStems
  dsimp only
  split
  · exact clampQuantity_le g r
  · refine (largestFit_le _ _ _ _).trans ?_
    have h1 := Nat.div_mul_le_self (r.remaining - emin r) r.unit
    have h2 := emin_le_remaining r
    omega

/-! ## The commit (R108 to R111) -/

/-- What a sale is read from (R108). -/
theorem State.saleOf_some {c : Nat} {v : Sale} (h : s.saleOf c = some v) :
    (s.clock c).lot = some v.lot ∧ (s.clock c).winner = some v.winner ∧ s.lot v.lot = some v.record ∧
      v.winner.buyer = some v.buyer ∧ v.winner.given = some v.given := by
  unfold State.saleOf at h
  dsimp only at h
  split at h
  · next hl hw =>
    split at h
    · next hr hb hg =>
      cases h
      exact ⟨hl, hw, hr, hb, hg⟩
    · cases h
  · cases h

theorem keeps_lotCommit (v : Sale) (p : Purchase) (hlot : s.lot v.lot = some v.record)
    (hp : p.stems ≤ v.record.remaining) : Keeps x x s (s.lotCommit v p) := by
  have h : Keeps x x s (s.setLot v.lot (some (commitPurchase v.record p))) := keeps_setLot s _ _ fun hs q hq => by
    obtain rfl := Option.some.inj hq
    have := hs v.record hlot
    simp only [LotRec.addsUp, commitPurchase, List.map_append, List.sum_append, List.map_cons, List.map_nil,
      List.sum_cons, List.sum_nil] at this ⊢
    omega
  unfold State.lotCommit
  exact .ite (fun _ => h.trans (keeps_reportClosure ..)) fun _ => h

theorem State.bookPurchase_frame (b hold net seq : Nat) :
    ∃ t p, s.bookPurchase b hold net seq = { s with accounts := t, ports := p } := by
  unfold State.bookPurchase
  split
  · exact s.book_frame ..
  · exact s.book_frame ..

theorem State.bookVoid_frame (b net seq : Nat) :
    ∃ t p, s.bookVoid b net seq = { s with accounts := t, ports := p } := by
  unfold State.bookVoid
  split
  · exact ⟨_, _, rfl⟩
  · exact s.book_frame ..

theorem State.append_frame (e : JEntry) : ∃ j p, s.append e = { s with journal := j, ports := p } := by
  obtain ⟨p, hp, -⟩ := (s.entered e).raise_ports .fin .journalPending (.number (s.values.used + 1))
  exact ⟨_, p, hp⟩

theorem State.clearTrain_frame (n : Nat) :
    ∃ y w p, s.clearTrain n = { s with yard := { s.yard with trains := y }, pres := w, ports := p } := by
  unfold State.clearTrain
  dsimp only
  obtain ⟨p, hp, -⟩ := (s.setTrain n { s.train n with state := .cleared }).raise_ports .yrd .trainCleared (.number n)
  split
  · exact ⟨_, _, p, hp⟩
  · split
    · exact ⟨_, _, p, by rw [hp]; rfl⟩
    · exact ⟨_, _, p, hp⟩

/-- The report of a closure can clear a train (R8, R42). -/
theorem State.reportClosure_frame (n : Option Nat) :
    ∃ y w p, s.reportClosure n = { s with yard := { s.yard with trains := y }, pres := w, ports := p } := by
  unfold State.reportClosure
  split
  · exact ⟨_, _, _, rfl⟩
  · split
    · exact s.clearTrain_frame _
    · exact ⟨_, _, _, rfl⟩

theorem State.lotCommit_frame (v : Sale) (p : Purchase) :
    ∃ l y w o, s.lotCommit v p = { s with lots := l, yard := { s.yard with trains := y }, pres := w, ports := o } := by
  unfold State.lotCommit
  dsimp only
  split
  · obtain ⟨y, w, o, h⟩ := (s.setLot v.lot (some (commitPurchase v.record p))).reportClosure_frame
      (commitPurchase v.record p).train
    exact ⟨_, y, w, o, h⟩
  · exact ⟨_, _, _, _, rfl⟩

/-- The records of a commit change the clock's reservation and no other field of the clocks. -/
theorem State.commitRecords_clock (c : Nat) (v : Sale) (q : Nat) :
    (s.commitRecords c v q).clock c = { s.clock c with reserved := false } := by
  have hgive := s.giveUpReservation_clock c
  obtain ⟨j, p, h1⟩ := (s.giveUpReservation c).append_frame (s.entryOf c v q)
  obtain ⟨t, p2, h2⟩ := (s.journalCommit c v q).bookPurchase_frame v.buyer v.winner.hold (s.purchaseOf v q).net
    (s.purchaseOf v q).seq
  obtain ⟨l, y, w, o, h3⟩ := ((s.journalCommit c v q).bookPurchase v.buyer v.winner.hold (s.purchaseOf v q).net
    (s.purchaseOf v q).seq).lotCommit_frame v (s.purchaseOf v q)
  unfold State.commitRecords
  dsimp only
  rw [h3, h2]
  unfold State.journalCommit
  dsimp only
  rw [h1]
  exact hgive

theorem keeps_commitRecords (c : Nat) (v : Sale) (q : Nat) (hlot : s.lot v.lot = some v.record)
    (hq : q ≤ v.record.remaining) (hres : (s.clock c).Reserves → (s.clock c).reserved = true) :
    Keeps none (some c) s (s.commitRecords c v q) := by
  refine ((keeps_journalCommit s c v q hres).trans (keeps_bookPurchase ..)).trans (keeps_lotCommit _ v _ ?_ hq)
  obtain ⟨j, t, hgive⟩ := s.giveUpReservation_frame c
  obtain ⟨j', p, h1⟩ := (s.giveUpReservation c).append_frame (s.entryOf c v q)
  obtain ⟨t', p2, h2⟩ := (s.journalCommit c v q).bookPurchase_frame v.buyer v.winner.hold (s.purchaseOf v q).net
    (s.purchaseOf v q).seq
  rw [h2]
  unfold State.journalCommit
  dsimp only
  rw [h1, hgive]
  exact hlot

/-- What the clock holds when its sale has been told (R110). -/
theorem State.commitTold_clock (c : Nat) (v : Sale) (q : Nat) :
    (s.commitTold c v q).clock c = { s.clock c with winner := none, lastSold := some v.lot } := by
  unfold State.commitTold
  dsimp only
  obtain ⟨o, p, h1⟩ := (s.setClock c { s.clock c with winner := none, lastSold := some v.lot }).offerReply_frame
    v.winner.desk .quantitySet (some c) (s.clock c).tag (.sold q v.winner.position v.winner.price)
  obtain ⟨w, h2, -⟩ := ((s.setClock c { s.clock c with winner := none, lastSold := some v.lot }).offerReply
    v.winner.desk .quantitySet (some c) (s.clock c).tag (.sold q v.winner.position v.winner.price)).raise_ports .auc
      .clockSold (.number c)
  rw [h2, h1]
  exact State.setClock_clock_same s c _

theorem keeps_commitTold (c : Nat) (v : Sale) (q : Nat) : Keeps (some c) (some c) s (s.commitTold c v q) := by
  unfold State.commitTold
  dsimp only
  exact ((keeps_setClock_from s c _ (fun h => absurd rfl h) (fun _ h => by exact h) fun _ _ => id).trans
    (keeps_offerReply ..)).trans (keeps_raise ..)

theorem keeps_afterClosed (c : Nat) : Keeps (some c) none s (s.afterClosed c) := by
  unfold State.afterClosed
  exact .ite (fun _ => (((keeps_letGo s c (closes_exempt c)).trans (keeps_setClock _ c _ fun h => h.of_same)).trans
      (keeps_raisePaused ..)).trans (keeps_settleQuiet ..))
    fun _ => (keeps_letGo s c (closes_exempt c)).trans (keeps_settle _)

theorem keeps_afterOpen (c position : Nat) (hwin : (s.clock c).winner = none)
    (hhalt : (s.clock c).waitHalt = none ∨ (s.clock c).state ≠ .running) :
    Keeps (some c) none s (s.afterOpen c position) := by
  refine (keeps_setClock_from s c _ (fun _ _ hh => ?_) (fun _ hh => ?_) (closes_exempt c)).trans (keeps_settle _)
  · have hnone : (s.clock c).waitHalt = none := hhalt.elim id fun hne => by
      cases hw : (s.clock c).waitHalt with
      | none => rfl
      | some w => exact absurd (hh (by rw [hw]; rfl)) hne
    refine ⟨fun hr => by simp at hr, ?_, ?_, ?_⟩
    · rintro ⟨_, h, -⟩
      exact nomatch hwin.symm.trans h
    · rintro ⟨_, h, -⟩
      change (s.clock c).waitHalt.bind _ = _ at h
      rw [hnone] at h
      cases h
    · intro h
      change (s.clock c).waitHalt.isSome = true at h
      rw [hnone] at h
      cases h
  · intro hw
    change (s.clock c).waitHalt.isSome = true at hw
    rcases hhalt with hn | hne
    · rw [hn] at hw; cases hw
    · exact absurd (hh hw) hne

theorem keeps_takeCommit (c : Nat) (v : Sale) (q : Nat) (hlot : s.lot v.lot = some v.record)
    (hq : q ≤ v.record.remaining) (hres : (s.clock c).Reserves → (s.clock c).reserved = true)
    (hhalt : (s.clock c).waitHalt = none ∨ (s.clock c).state ≠ .running) :
    Keeps none none s (s.takeCommit c v q) := by
  have h := (keeps_commitRecords s c v q hlot hq hres).trans (keeps_commitTold _ c v q)
  have hclock : ((s.commitRecords c v q).commitTold c v q).clock c =
      { s.clock c with reserved := false, winner := none, lastSold := some v.lot } := by
    rw [State.commitTold_clock, State.commitRecords_clock]
  unfold State.takeCommit
  refine .ite (fun _ => h.trans (keeps_afterOpen _ c _ ?_ ?_)) fun _ => h.trans (keeps_afterClosed ..)
  · rw [hclock]
  · rw [hclock]; exact hhalt

theorem keeps_attemptCommit (c : Nat) (hhalt : (s.clock c).waitHalt = none ∨ (s.clock c).state ≠ .running) :
    Keeps none none s (s.attemptCommit c) := by
  unfold State.attemptCommit
  split
  · exact .refl _ s
  · next v hv =>
    obtain ⟨-, hwin, hlot, hbuyer, -⟩ := s.saleOf_some hv
    dsimp only
    split
    · next s1 ho =>
      obtain ⟨o, p, rfl⟩ := s.offer_frame ho
      refine (keeps_offer s ho).trans (keeps_takeCommit _ c v _ hlot (finalStems_le ..) (fun h => ?_) hhalt)
      exact h.sale ⟨v.winner, hwin, by rw [hbuyer]; rfl⟩
    · exact keeps_joinWait ..

theorem keeps_giveQuantity (c : Nat) (g : Given) (hheld : (s.clock c).state = .held) :
    Keeps none none s (s.giveQuantity c g) := by
  have hsale : ∀ k : Clock, k.Reserves →
      hasBuyer (k.winner.map fun w => { w with given := some g }) → k.reserved = true := fun k h ⟨v, hv, hb⟩ => by
    obtain ⟨w, hw, rfl⟩ := Option.map_eq_some_iff.1 hv
    exact h.sale ⟨w, hw, hb⟩
  refine (keeps_setClock s c _ fun h => by exact ⟨h.run, hsale _ h, h.candidate, h.halt⟩).trans
    (keeps_attemptCommit _ c ?_)
  · rw [State.setClock_clock_same]
    exact .inr (by rw [show (s.clock c).state = _ from hheld]; nofun)

theorem keeps_judgeQuantity (c d tag : Nat) (g : Given) : Keeps none none s (s.judgeQuantity c d tag g) := by
  unfold State.judgeQuantity
  dsimp only
  split
  · exact keeps_offerReply ..
  · exact .ite (fun _ => keeps_offerReply ..) fun hheld => .ite (fun _ => keeps_offerReply ..) fun _ =>
      .ite (fun _ => keeps_offerReply ..) fun _ => .ite (fun _ => keeps_offerReply ..) fun _ =>
        keeps_giveQuantity s c g (not_not.1 hheld)

theorem keeps_takeQuantityFrame (c d tag : Nat) (g : Given) : Keeps none none s (s.takeQuantityFrame c d tag g) :=
  .ite (fun _ => keeps_judgeQuantity ..) fun _ => keeps_offerReply ..

/-! ## The void (R112 to R114) -/

/-- What a void that is taken has been judged to be (R112). -/
theorem State.judgeVoid_taken {c l : Nat} {r : LotRec} {p : Purchase} (h : s.judgeVoid c = .taken l r p) :
    (s.clock c).state ≠ .running ∧ s.lot l = some r ∧ r.purchases.getLast? = some p ∧ s.journalIsFull = false ∧
      ((s.clock c).state = .loaded → (s.clock c).lot ≠ some l → (s.presOf c).queue.length < 8) := by
  unfold State.judgeVoid at h
  dsimp only at h
  split at h
  · cases h
  next hstate =>
  split at h
  · cases h
  next l' _ =>
  split at h
  · cases h
  next r' hr =>
  split at h
  · cases h
  split at h
  · cases h
  next p' hp =>
  split at h
  · cases h
  split at h
  · cases h
  split at h
  · cases h
  next hfull =>
  split at h
  · cases h
  next hroom =>
  cases h
  refine ⟨fun hrun => hstate (.inl hrun), hr, hp, by simpa using hfull, fun h1 h2 => ?_⟩
  by_contra hle
  exact hroom ⟨h1, h2, Nat.not_lt.1 hle⟩

/-- The lot that a void gives a purchase back adds up (R6). -/
theorem removePurchase_addsUp {r : LotRec} {p : Purchase} (c q : Nat) (hp : r.purchases.getLast? = some p)
    (h : LotRec.addsUp r) : LotRec.addsUp (removePurchase r p c q) := by
  have hsplit : r.purchases = r.purchases.dropLast ++ [p] :=
    (List.dropLast_append_getLast? p (by rw [hp]; rfl)).symm
  unfold LotRec.addsUp at h
  rw [hsplit] at h
  simp only [LotRec.addsUp, removePurchase, List.map_append, List.sum_append, List.map_cons, List.map_nil,
    List.sum_cons, List.sum_nil] at h ⊢
  omega

theorem keeps_voidRecords (c l : Nat) (r : LotRec) (p : Purchase) (hlot : ∃ z, s.lot l = some z ∧
      (LotRec.addsUp z → LotRec.addsUp r)) (hp : r.purchases.getLast? = some p) (hfull : s.journalIsFull = false) :
    Keeps x x s (s.voidRecords c l r p) := by
  obtain ⟨z, hz, hadd⟩ := hlot
  obtain ⟨j, o, h1⟩ := s.append_frame (s.voidEntry c l r p)
  obtain ⟨o', h2⟩ := (s.append (s.voidEntry c l r p)).judgeLow_frame
  have hlots : ((s.append (s.voidEntry c l r p)).judgeLow).lot l = some z := by rw [h2, h1]; exact hz
  refine (((keeps_append s _ fun _ _ => of_decide_eq_false hfull |> Nat.not_le.1).trans (keeps_judgeLow _)).trans
    (keeps_setLot _ l _ fun hs q hq => ?_)).trans (keeps_bookVoid ..)
  obtain rfl := Option.some.inj hq
  exact removePurchase_addsUp c _ hp (hadd (hs z hlots))

theorem State.giveBack_frame (c k : Nat) : ∃ l w, s.giveBack c k = { s with lots := l, pres := w } := by
  unfold State.giveBack
  dsimp only
  obtain ⟨l, hl⟩ := s.setLotState_frame k .queued
  obtain ⟨l', w, hw⟩ := ((s.setLotState k .queued).setPres c
    { joinHead k (s.presOf c) with pending := none, current := none, unrun := false }).fill_frame c
  exact ⟨l', w, by rw [hw, hl]; rfl⟩

end Sys2Proof.Machine
end

section
/-! What the grants of freed places, the events and the commands of the ports keep. -/

namespace Sys2Proof.Machine

-- One declaration after another, within the memory that a check of the whole text has.
set_option Elab.async false

variable {x : Option Nat} (s : State)

/-! ## The void (R113, R114) -/

/-- Every lot has the stems, sold and left, that it had. -/
def SameStems (s t : State) : Prop :=
  ∀ l r, s.lot l = some r →
    ∃ z, t.lot l = some z ∧ z.purchases = r.purchases ∧ z.remaining = r.remaining ∧ z.total = r.total

theorem SameStems.refl : SameStems s s := fun _ r h => ⟨r, h, rfl, rfl, rfl⟩

theorem SameStems.trans {s t u : State} (h : SameStems s t) (g : SameStems t u) : SameStems s u := fun l r hr => by
  obtain ⟨z, hz, h1, h2, h3⟩ := h l r hr
  obtain ⟨y, hy, g1, g2, g3⟩ := g l z hz
  exact ⟨y, hy, g1.trans h1, g2.trans h2, g3.trans h3⟩

theorem sameStems_updLot (k : Nat) (f : LotRec → LotRec)
    (hf : ∀ r, (f r).purchases = r.purchases ∧ (f r).remaining = r.remaining ∧ (f r).total = r.total) :
    SameStems s (s.updLot k f) := fun l r hr => by
  unfold State.updLot
  split
  · exact ⟨r, hr, rfl, rfl, rfl⟩
  · next q hq =>
    rw [State.setLot_lot]
    split
    · next hl =>
      subst hl
      obtain rfl := Option.some.inj (hr.symm.trans hq)
      exact ⟨f r, rfl, hf r⟩
    · exact ⟨r, hr, rfl, rfl, rfl⟩

theorem sameStems_fillUpTo (n c : Nat) : SameStems s (State.fillUpTo n c s) := by
  induction n generalizing s with
  | zero => exact .refl s
  | succ n ih =>
    unfold State.fillUpTo
    dsimp only
    split
    · exact .refl s
    · split
      · split
        · exact .refl s
        · next k _ =>
          have hjoins : SameStems s (s.lotJoins k c) := sameStems_updLot s k _ fun _ => ⟨rfl, rfl, rfl⟩
          exact SameStems.trans (t := (s.lotJoins k c).setPres c
            { s.presOf c with queue := (s.presOf c).queue ++ [{ lot := k, origin := .train, announce := none }] })
              hjoins (ih _)
      · exact .refl s

theorem sameStems_giveBack (c k : Nat) : SameStems s (s.giveBack c k) :=
  have hqueued : SameStems s (s.setLotState k .queued) := sameStems_updLot s k _ fun _ => ⟨rfl, rfl, rfl⟩
  SameStems.trans (t := (s.setLotState k .queued).setPres c
    { joinHead k (s.presOf c) with pending := none, current := none, unrun := false }) hqueued (sameStems_fillUpTo _ _ c)

theorem State.dropBegin_clock (c : Nat) : (s.dropBegin c).clock c = { s.clock c with waitBegin := none } := by
  unfold State.dropBegin
  dsimp only
  split
  · next h => rw [← h]
  · exact State.setClock_clock_same s c _

theorem keeps_voidClock (c l : Nat) (hrun : (s.clock c).state ≠ .running) : Keeps none none s (s.voidClock c l) := by
  have hclock := s.dropBegin_clock c
  unfold State.voidClock
  refine ((keeps_dropBegin s c).trans (keeps_setClock _ c _ fun h => ?_)).trans (keeps_setPres_same _ c _)
  rw [hclock] at h ⊢
  have hnone : (s.clock c).waitHalt = none := by
    cases hw : (s.clock c).waitHalt with
    | none => rfl
    | some w => exact absurd (h.halt (by
        change (s.clock c).waitHalt.isSome = true
        rw [hw]; rfl)) hrun
  refine ⟨fun hr => by simp at hr, fun hw => absurd hw not_hasBuyer_none, fun hw => h.candidate hw, fun hw => ?_⟩
  change (s.clock c).waitHalt.isSome = true at hw
  rw [hnone] at hw
  cases hw

theorem State.voidRecords_clock (c l d : Nat) (r : LotRec) (p : Purchase) :
    (s.voidRecords c l r p).clock d = s.clock d := by
  obtain ⟨j, o, h1⟩ := s.append_frame (s.voidEntry c l r p)
  obtain ⟨o', h2⟩ := (s.append (s.voidEntry c l r p)).judgeLow_frame
  obtain ⟨t, o'', h3⟩ := (((s.append (s.voidEntry c l r p)).judgeLow).setLot l
    (some (removePurchase r p c s.nextSeq))).bookVoid_frame p.buyer p.net s.nextSeq
  unfold State.voidRecords
  dsimp only
  rw [h3]
  change (((s.append (s.voidEntry c l r p)).judgeLow)).clock d = _
  rw [h2, h1]
  rfl

theorem keeps_takeVoid (c l : Nat) (r : LotRec) (p : Purchase) (h : s.judgeVoid c = .taken l r p) :
    Keeps none none s (s.takeVoid c l r p) := by
  obtain ⟨hrun, hlot, hp, hfull, hroom⟩ := s.judgeVoid_taken h
  have hback : Keeps none none s (s.voidGiveBack c l) ∧ SameStems s (s.voidGiveBack c l) ∧
      (s.voidGiveBack c l).journal = s.journal ∧ (s.voidGiveBack c l).clocks = s.clocks := by
    unfold State.voidGiveBack
    dsimp only
    split
    · exact ⟨.refl _ s, .refl s, rfl, rfl⟩
    · next m hm =>
      split
      · next hload =>
        obtain ⟨lots, w, hf⟩ := s.giveBack_frame c m
        refine ⟨keeps_giveBack s c m (hroom hload.1 (by rw [hm]; exact fun he => hload.2 (Option.some.inj he))),
          sameStems_giveBack s c m, by rw [hf], by rw [hf]⟩
      · exact ⟨.refl _ s, .refl s, rfl, rfl⟩
  obtain ⟨hkeeps, hstems, hjournal, hclocks⟩ := hback
  unfold State.takeVoid
  refine ((hkeeps.trans (keeps_voidRecords _ c l r p ?_ hp ?_)).trans (keeps_voidClock _ c l ?_)).trans (keeps_settle _)
  · obtain ⟨z, hz, h1, h2, h3⟩ := hstems l r hlot
    exact ⟨z, hz, fun ha => by unfold LotRec.addsUp at ha ⊢; rw [← h1, ← h2, ← h3]; exact ha⟩
  · change decide (_ ≤ (s.voidGiveBack c l).journal.copy1.values.used + _) = false
    unfold State.values
    rw [hjournal]
    exact hfull
  · rw [State.voidRecords_clock]
    change (Tab.get _ (s.voidGiveBack c l).clocks c).state ≠ _
    rw [hclocks]
    exact hrun

/-! ## Freed places (R173) -/

theorem keeps_beginAgain (c : Nat) (kind : BeginKind) : Keeps none none s (s.beginAgain c kind) := by
  have h0 : Keeps none none s (s.setClock c { s.clock c with waitBegin := none }) := keeps_setWaitBegin s c none
  have h1 := h0.trans (keeps_beginRun _ c kind)
  have hfail : ∀ cause, Keeps none none s
      (match kind with
        | .startPending => (s.setClock c { s.clock c with waitBegin := none }).raisePaused c
        | .restart => (s.setClock c { s.clock c with waitBegin := none }).restartFailed c cause
        | .startCommand => s.setClock c { s.clock c with waitBegin := none }
        | .resume => s.setClock c { s.clock c with waitBegin := none }
        | .rehearsal => s.setClock c { s.clock c with waitBegin := none }) := fun cause => by
    cases kind
    · exact h0
    · exact h0.trans (keeps_raisePaused ..)
    · exact h0.trans (keeps_restartFailed ..)
    · exact h0
    · exact h0
  unfold State.beginAgain
  dsimp only
  split
  · exact h1
  · exact h1
  · exact hfail .supply
  · exact hfail .journal

theorem keeps_grantSale (c : Nat) (hhalt : (s.clock c).waitHalt = none) : Keeps none none s (s.grantSale c) := by
  unfold State.grantSale
  dsimp only
  split
  · exact .refl _ s
  · exact .ite (fun _ => keeps_settleRehearsal ..) fun _ => keeps_attemptCommit s c (.inl hhalt)

theorem keeps_produce (e : Producer) : Keeps none none s (s.produce e) := by
  cases e with
  | presentation => exact keeps_announceStep s
  | clock c =>
    unfold State.produce
    dsimp only
    split
    · next h hh => exact keeps_grantHalt s c h hh
    · exact keeps_beginAgain ..
    · next hh _ => exact keeps_grantSale s c hh

theorem keeps_grantUpTo (n : Nat) : Keeps none none s (State.grantUpTo n s) := by
  induction n generalizing s with
  | zero => exact .refl _ s
  | succ n ih =>
    unfold State.grantUpTo
    refine .ite (fun _ => ?_) fun _ => .refl _ s
    split
    · exact .refl _ s
    · exact ((keeps_leaveWait ..).trans (keeps_produce ..)).trans (ih _)

theorem keeps_placeFreed : Keeps none none s s.placeFreed := by
  unfold State.placeFreed
  exact .ite (fun _ => (keeps_grantUpTo s 14).trans (keeps_settle _)) fun _ =>
    (keeps_grantUpTo s 14).trans (keeps_judgeClocks ..)

theorem keeps_leaveHead : Keeps none none s s.leaveHead := by
  refine ((keeps_setSending s none).trans (keeps_setOutbound _ s.line.outbound.tail (fun h => ?_) fun h => ?_)).trans
    (keeps_placeFreed _)
  · rw [List.length_tail]
    exact (Nat.sub_le _ _).trans h
  · change RepliesFirst s.line.outbound at h
    cases hq : s.line.outbound with
    | nil => exact RepliesFirst.nil
    | cons a t => rw [hq] at h; exact h.tail

theorem keeps_resend : Keeps none none s s.resend := keeps_setSending ..

theorem keeps_reached (d : Nat) : Keeps none none s (s.reached d) := keeps_setDesk s d _

theorem keeps_countDrop (d : Nat) : Keeps none none s (s.countDrop d) := by
  unfold State.countDrop
  exact .ite (fun _ => (keeps_setDesk s d _).trans (keeps_raise ..)) fun _ => keeps_setDesk s d _

theorem keeps_failed (f : Sending) : Keeps none none s (s.failed f) := by
  unfold State.failed
  refine .ite (fun _ => keeps_setSending ..) fun _ => ?_
  have hbroadcast : Keeps none none s (s.broadcastDisturbed s.sentCount) :=
    .ite (fun _ => keeps_leaveHead s) fun _ => keeps_resend s
  split
  · exact .ite (fun _ => (keeps_countDrop ..).trans (keeps_leaveHead _)) fun _ => keeps_resend s
  · exact hbroadcast
  · exact hbroadcast
  · exact hbroadcast
  · exact hbroadcast

theorem keeps_delivered (f : Sending) (d : Nat) : Keeps none none s (s.delivered f d) := by
  unfold State.delivered
  exact .ite (fun _ => (keeps_reached s d).trans (keeps_setSending ..)) fun _ =>
    (keeps_reached s d).trans (keeps_leaveHead _)

theorem keeps_beginSending : Keeps none none s s.beginSending := by
  unfold State.beginSending
  split
  · exact .refl _ s
  · next p t hq =>
    refine (keeps_setOutbound s _ (fun h => ?_) fun h => ?_).trans (keeps_setSending ..)
    · rwa [hq] at h
    · rw [hq] at h
      exact ⟨h.behind, fun a u he hs => (by cases he; cases hs), h.fresh⟩

/-! ## Clock events (R55, R71, R75, R103, R107) -/

theorem State.timeUp_state {c : Nat} {q : ClockState} (h : s.timeUp c q = true) : (s.clock c).state = q := by
  simp only [State.timeUp, Bool.and_eq_true, beq_iff_eq] at h
  exact h.1.2

theorem keeps_stepOn (c : Nat) : Keeps none none s (s.stepOn c) := keeps_setClock s c _ fun h => h.of_same

theorem keeps_runOut (c : Nat) (hrun : (s.clock c).state = .running) : Keeps none none s (s.runOut c) := by
  unfold State.runOut
  split
  · next s1 ho => exact ((keeps_offerHalt s ho).trans (keeps_takeRunout ..)).trans (keeps_settle _)
  · exact keeps_holdHalt s c _ hrun fun _ h => absurd h not_hasBuyer_none

theorem keeps_settleUp (c : Nat) (hset : (s.clock c).state = .settling) : Keeps none none s (s.settleUp c) := by
  unfold State.settleUp
  dsimp only
  split
  · exact .refl _ s
  · exact .ite (fun _ => keeps_settleRehearsal ..) fun _ => keeps_settleSale s c _ hset

theorem keeps_holdUp (c : Nat) (hheld : (s.clock c).state = .held) : Keeps none none s (s.holdUp c) := by
  unfold State.holdUp
  split
  · exact .refl _ s
  · exact keeps_giveQuantity s c _ hheld

theorem keeps_restart (c : Nat) : Keeps none none s (s.restart c) := by
  have h0 : Keeps none none s (s.setClock c { s.clock c with timer := none }) := keeps_setClock s c _ fun h => h.of_same
  have h1 := h0.trans (keeps_beginRun _ c .restart)
  unfold State.restart
  dsimp only
  split
  · exact h1
  · exact h1
  · exact h0.trans (keeps_restartFailed ..)
  · exact h0.trans (keeps_restartFailed ..)

theorem keeps_restartUp (c : Nat) : Keeps none none s (s.restartUp c) :=
  .ite (fun _ => keeps_restartFailed ..) fun _ => keeps_restart s c

/-! ## Desk events (R144, R145, R168 to R170, R176) -/

theorem keeps_receive (f : WireFrame) : Keeps none none s (s.receive f) := by
  unfold State.receive
  refine .ite (fun _ => (keeps_reached s f.source).trans ?_) fun _ => keeps_setAck ..
  unfold State.acknowledge
  refine .ite (fun hroom => (keeps_setInbound _ _ fun _ => ?_).trans (keeps_setAck ..)) fun _ => keeps_setAck ..
  simp only [Config.inboundSize] at hroom
  simpa using hroom

theorem keeps_handOn : Keeps none none s s.handOn :=
  keeps_setInbound s _ fun h => by
    rw [List.length_tail]
    exact (Nat.sub_le _ _).trans h

theorem keeps_serviceReply (d : Nat) (code : DeskCode) (e : ReplyDetail) :
    Keeps none none s (s.serviceReply d code e) := keeps_offerReply ..

theorem keeps_judgeSignIn (d badge : Nat) : Keeps none none s (s.judgeSignIn d badge) := by
  unfold State.judgeSignIn
  split
  · exact keeps_serviceReply ..
  · next b _ =>
    refine .ite (fun _ => keeps_serviceReply ..) fun _ => .ite (fun _ => keeps_serviceReply ..) fun huse =>
      .ite (fun _ => keeps_serviceReply ..) fun hbusy => (keeps_bind s d b ?_ ?_).trans (keeps_serviceReply ..)
    · cases h : (s.desk d).buyer with
      | none => exact .inl rfl
      | some c =>
        rw [h] at hbusy
        exact .inr (not_not.1 fun hne => hbusy ⟨rfl, hne⟩)
    · cases h : (s.acct b).desk with
      | none => exact .inl rfl
      | some c =>
        rw [h] at huse
        exact .inr (not_not.1 fun hne => huse ⟨rfl, hne⟩)

theorem keeps_judgeSignOut (d : Nat) : Keeps none none s (s.judgeSignOut d) := by
  unfold State.judgeSignOut
  split
  · exact keeps_serviceReply ..
  · next b hb =>
    exact .ite (fun _ => keeps_serviceReply ..) fun _ => (keeps_unbind s d b hb).trans (keeps_serviceReply ..)

theorem keeps_answerStatus (d : Nat) : Keeps none none s (s.answerStatus d) := by
  unfold State.answerStatus
  split <;> exact keeps_serviceReply ..

/-! ## Transfers and replies (R181, R185, R186) -/

theorem keeps_putReply (p : Port) (t : Nat) (code : ReplyCode) (fs : List Byte) :
    Keeps none none s (s.putReply p t code fs) := keeps_setPort_same s p _

theorem keeps_abortTransfer (p : Port) : Keeps none none s (s.abortTransfer p) := by
  unfold State.abortTransfer
  dsimp only
  split
  · exact .refl _ s
  · exact (keeps_setPort_same s p _).trans (keeps_raise ..)

theorem keeps_completeTransfer (p : Port) (f : Xfer) : Keeps none none s (s.completeTransfer p f) :=
  keeps_setPort_same s p _

theorem keeps_countUnits (p : Port) (f : Xfer) : Keeps none none s (s.countUnits p f) :=
  .ite (fun _ => keeps_completeTransfer ..) fun _ => keeps_setPort_same s p _

theorem keeps_openTransfer (p : Port) (kind : XferKind) (n : Option Nat) (d : Nat) :
    Keeps none none s (s.openTransfer p kind n d) := keeps_countUnits ..

/-! ## AUC (R52 to R88) -/

theorem keeps_ok {t : State} (fs : List Byte) (h : Keeps none none s t) : Keeps none none s (Answer.ok t fs).state := h

theorem keeps_refuse (code : ReplyCode) : Keeps none none s (Answer.refuse s code).state := .refl _ s

theorem keeps_clockGuard {a : Answer} (c : Nat) (h : Keeps none none s a.state) :
    Keeps none none s (clockGuard s c a).state := by
  unfold clockGuard
  split
  · exact h
  · exact keeps_refuse ..

theorem keeps_clockSetBlock (c : Nat) (r : Settings) : Keeps none none s (s.clockSetBlock c r).state := by
  unfold State.clockSetBlock
  refine keeps_clockGuard s c ?_
  have h : Keeps none none s (s.storeSettings c (clampSettings r)) :=
    ((keeps_setClock s c _ fun h => h.of_same).trans (keeps_settle _)).trans (keeps_judgeStart ..)
  split
  · exact keeps_ok s _ h
  · exact keeps_ok s _ h
  all_goals exact keeps_refuse ..

theorem keeps_setMode (c : Nat) (on : Bool) : Keeps none none s (s.setMode c on) := by
  unfold State.setMode
  exact ((keeps_dropBegin s c).trans (keeps_setClock _ c _ fun h => h.of_same)).trans (keeps_settle _)

theorem keeps_clockModeBlock (c : Nat) (on : Bool) : Keeps none none s (s.clockModeBlock c on).state := by
  unfold State.clockModeBlock
  refine keeps_clockGuard s c ?_
  split
  · exact keeps_refuse ..
  · split
    · exact keeps_ok s _ (.refl _ s)
    · exact keeps_ok s _ (keeps_setMode ..)

theorem keeps_clockLoadBlock (c : Nat) : Keeps none none s (s.clockLoadBlock c).state := by
  unfold State.clockLoadBlock
  refine keeps_clockGuard s c ?_
  dsimp only
  split
  · exact keeps_refuse ..
  · split
    · exact keeps_refuse ..
    · next hidle =>
      split
      · exact keeps_refuse ..
      · split
        · exact keeps_ok s _ ((keeps_load s c (not_not.1 hidle)).trans (keeps_settle _))
        · exact keeps_refuse ..

theorem keeps_beginBlock (c : Nat) (kind : BeginKind) : Keeps none none s (s.beginBlock c kind).state :=
  keeps_beginRun s c kind

theorem keeps_clockStartBlock (c : Nat) : Keeps none none s (s.clockStartBlock c).state := by
  unfold State.clockStartBlock
  refine keeps_clockGuard s c ?_
  dsimp only
  split
  · exact keeps_refuse ..
  · split
    · exact keeps_refuse ..
    · split
      · exact keeps_refuse ..
      · split
        · exact keeps_ok s _ (.refl _ s)
        · split
          · exact keeps_beginBlock ..
          · exact keeps_ok s _ (keeps_setPres_same s c _)

theorem keeps_pauseClock {c : Nat} {t : State} (h : s.pauseClock c = some t) : Keeps none none s t := by
  unfold State.pauseClock at h
  dsimp only at h
  split at h
  · split at h
    · cases h; exact keeps_dropBegin s c
    · cases h
  · cases h
    exact (keeps_dropBegin s c).trans (keeps_setPres_same _ c _)
  · next hrun =>
    obtain rfl := Option.some.inj h
    exact (keeps_pauseRunning s c .auctioneer hrun).trans (keeps_judgeClocks _ none)
  · cases h
    exact .ite (fun _ => .refl _ s) fun _ => keeps_setPausePending ..
  · cases h
    exact keeps_setPausePending ..
  · split at h
    · cases h
      exact (keeps_dropBegin s c).trans (keeps_pauseAt ..)
    · cases h
      exact keeps_setPausePending ..
  · cases h
    exact keeps_dropBegin s c

theorem keeps_clockPauseBlock (c : Nat) : Keeps none none s (s.clockPauseBlock c).state := by
  unfold State.clockPauseBlock
  refine keeps_clockGuard s c ?_
  split
  · exact keeps_refuse ..
  · next t h => exact keeps_ok s _ (keeps_pauseClock s h)

theorem keeps_clockResumeBlock (c : Nat) : Keeps none none s (s.clockResumeBlock c).state := by
  unfold State.clockResumeBlock
  refine keeps_clockGuard s c ?_
  dsimp only
  split
  · exact keeps_refuse ..
  · split
    · exact keeps_refuse ..
    · split
      · exact keeps_refuse ..
      · split
        · exact keeps_ok s _ (.refl _ s)
        · exact keeps_beginBlock ..

theorem keeps_skip (c k : Nat) : Keeps none none s (s.skip c k) := by
  unfold State.skip
  exact (((((keeps_closeLot s k .skip).trans (keeps_giveUpReservation _ c)).trans (keeps_dropBegin _ c)).trans
    (keeps_letGo _ c (closes_exempt c))).trans (keeps_setClock _ c _ fun h => h.of_same)).trans (keeps_settle _)

theorem keeps_clockSkipBlock (c : Nat) : Keeps none none s (s.clockSkipBlock c).state := by
  unfold State.clockSkipBlock
  refine keeps_clockGuard s c ?_
  dsimp only
  split
  · split
    · exact keeps_refuse ..
    · exact keeps_ok s _ (keeps_skip ..)
  · exact keeps_refuse ..

theorem keeps_voidLastBlock (c : Nat) : Keeps none none s (s.voidLastBlock c).state := by
  unfold State.voidLastBlock
  refine keeps_clockGuard s c ?_
  split
  · exact keeps_refuse ..
  · next l r p h => exact keeps_ok s _ (keeps_takeVoid s c l r p h)

theorem keeps_rehearsalRunBlock (c : Nat) : Keeps none none s (s.rehearsalRunBlock c).state := by
  unfold State.rehearsalRunBlock
  refine keeps_clockGuard s c ?_
  dsimp only
  split
  · exact keeps_refuse ..
  · split
    · exact keeps_refuse ..
    · split
      · exact keeps_refuse ..
      · exact keeps_beginBlock ..

theorem keeps_rehearsalClearBlock (c : Nat) : Keeps none none s (s.rehearsalClearBlock c).state :=
  keeps_clockGuard s c (keeps_ok s _ (keeps_setClock s c _ fun h => h.of_same))

theorem keeps_rehearsalReportBlock (p : Port) (c : Nat) : Keeps none none s (s.rehearsalReportBlock p c).state :=
  keeps_clockGuard s c (keeps_ok s _ (.ite (fun _ => keeps_openTransfer ..) fun _ => .refl _ s))

end Sys2Proof.Machine
end

section
/-! What the commands of the ports FIN, SUP and YRD keep. -/

namespace Sys2Proof.Machine

-- One declaration after another, within the memory that a check of the whole text has.
set_option Elab.async false

variable {x : Option Nat} (s : State)

/-! ## FIN (R138 to R142, R154) -/

theorem keeps_buyerGuard {a : Answer} (b : Nat) (h : Keeps none none s a.state) :
    Keeps none none s (buyerGuard s b a).state := by
  unfold buyerGuard
  split
  · exact keeps_refuse ..
  · split
    · exact h
    · exact keeps_refuse ..

theorem keeps_invoiceCloseBlock (b : Nat) : Keeps none none s (s.invoiceCloseBlock b).state :=
  keeps_buyerGuard s b (keeps_ok s _ (keeps_closeInvoice ..))

theorem keeps_walkOn (p : Port) (f : Xfer) (closed : Bool) : Keeps none none s (s.walkOn p f closed) := by
  unfold State.walkOn
  exact .ite (fun _ => keeps_setPort_same s p _) fun _ => (keeps_completeTransfer ..).trans (keeps_raise ..)

theorem keeps_walkStep : Keeps none none s s.walkStep := by
  unfold State.walkStep
  split
  · exact .refl _ s
  · split
    · exact .ite (fun _ => (keeps_closeInvoice ..).trans (keeps_walkOn ..)) fun _ => keeps_walkOn ..
    all_goals exact .refl _ s

theorem keeps_paymentPostBlock (b given : Nat) : Keeps none none s (s.paymentPostBlock b given).state :=
  keeps_buyerGuard s b (keeps_ok s _ (keeps_pay ..))

theorem State.journalReadBlock_state (seq count : Nat) : (s.journalReadBlock seq count).state = s := by
  unfold State.journalReadBlock
  dsimp only
  split
  · rfl
  · split
    · rfl
    · split
      · split <;> rfl
      · rfl

/-! ## Layout records (R21) -/

theorem keeps_dropMove (n : Nat) : Keeps none none s (s.dropMove n) := (keeps_unqueue ..).trans (keeps_raise ..)

theorem keeps_takeSegment (g : Nat) (l : SegLayout) : Keeps none none s (s.takeSegment g l).state :=
  ((keeps_setSeg s g _).trans (Keeps.each (fun n q => keeps_dropMove q n) _ _)).trans (keeps_reexamine _)

theorem keeps_writeSegment (r : SegFields) : Keeps none none s (s.writeSegment r).state := by
  unfold State.writeSegment
  dsimp only
  split
  · exact .refl _ s
  · split
    · exact .refl _ s
    · split
      · exact .refl _ s
      · split
        · exact .refl _ s
        · split
          · exact .refl _ s
          · exact keeps_takeSegment ..

/-! ## SUP (R10 to R12, R20, R40, R132 to R134, R146, R156, R194, R195) -/

theorem registeredLot_addsUp (r : LotFields) : LotRec.addsUp (registeredLot r) := by
  simp [LotRec.addsUp, registeredLot]

theorem keeps_writeLot (r : LotFields) : Keeps none none s (s.writeLot r).state := by
  unfold State.writeLot
  dsimp only
  split
  · exact .refl _ s
  · split
    · refine keeps_ok s _ (keeps_setLot s _ _ fun _ q hq => ?_)
      obtain rfl := Option.some.inj hq
      exact registeredLot_addsUp _
    · exact .refl _ s

theorem keeps_lotWriteBlock (p : Port) (count : Nat) (r : LotFields) :
    Keeps none none s (s.lotWriteBlock p count r).state := by
  unfold State.lotWriteBlock
  exact .ite (fun _ => (keeps_writeLot s r).trans (keeps_openTransfer ..)) fun _ => keeps_writeLot s r

theorem keeps_withdraw (k : Nat) (r : LotRec) : Keeps none none s (s.withdraw k r) := by
  unfold State.withdraw
  dsimp only
  split
  · exact ((keeps_closeLot ..).trans (keeps_leaveQueue ..)).trans (keeps_settle _)
  · exact ((keeps_closeLot ..).trans (keeps_leaveQueue ..)).trans (keeps_settle _)
  · exact keeps_closeLot ..

theorem keeps_lotWithdrawBlock (k : Nat) : Keeps none none s (s.lotWithdrawBlock k).state := by
  unfold State.lotWithdrawBlock
  split
  · exact keeps_refuse ..
  · split
    · exact keeps_refuse ..
    · split
      · exact keeps_refuse ..
      · exact keeps_ok s _ (keeps_withdraw ..)

theorem keeps_lotReleaseBlock (k : Nat) : Keeps none none s (s.lotReleaseBlock k).state := by
  unfold State.lotReleaseBlock
  split
  · exact keeps_refuse ..
  · split
    · exact keeps_refuse ..
    · split
      · exact keeps_ok s _ (keeps_setLot s k none fun _ => nofun)
      · exact keeps_refuse ..

theorem keeps_setYardTimes (window transit : Nat) : Keeps none none s (s.setYardTimes window transit) := by
  unfold State.setYardTimes
  exact
  { windowTable := Tab.wf_mapAll _ (fun _ w => youngLaunches window w) _
    windows := fun h => Tab.forall_mapAll (P := fun w : List Launch => w.length ≤ 4) h fun _ _ hw =>
      (List.length_filter_le _ _).trans hw }

theorem keeps_layoutWriteBlock (p : Port) (window transit count : Nat) :
    Keeps none none s (s.layoutWriteBlock p window transit count).state := by
  unfold State.layoutWriteBlock
  split
  · exact keeps_refuse ..
  · exact keeps_ok s _ (((keeps_setYardTimes ..).trans (keeps_reexamine _)).trans (keeps_openTransfer ..))

theorem keeps_segmentClearBlock (g : Nat) : Keeps none none s (s.segmentClearBlock g).state := by
  unfold State.segmentClearBlock
  split
  · exact keeps_refuse ..
  · split
    · split
      · exact keeps_ok s _ ((keeps_setSegState ..).trans (keeps_reexamine _))
      · exact keeps_refuse ..
    all_goals exact keeps_refuse ..

theorem keeps_vacateBlock (b : Nat) : Keeps none none s (s.vacateBlock b).state := by
  unfold State.vacateBlock
  dsimp only
  split
  · exact keeps_ok s _ (.refl _ s)
  · split
    · exact keeps_refuse ..
    · exact keeps_ok s _ (keeps_retire ..)

theorem writtenAccount_desk (a : Account) (q : AcctState) (r : AccountFields) : (writtenAccount a q r).desk = a.desk := by
  unfold writtenAccount
  dsimp only
  split <;> rfl

theorem writtenAccount_heldAmt (a : Account) (q : AcctState) (r : AccountFields) :
    (writtenAccount a q r).heldAmt = a.heldAmt := by
  unfold writtenAccount
  dsimp only
  split <;> rfl

theorem keeps_keepBlock (b : Nat) (q : AcctState) (r : AccountFields) : Keeps none none s (s.keepBlock b q r).state := by
  unfold State.keepBlock
  dsimp only
  split
  · exact keeps_refuse ..
  · split
    · exact keeps_refuse ..
    · split
      · exact keeps_refuse ..
      · split
        · exact keeps_refuse ..
        · exact keeps_ok s _ (keeps_book s b _ _ _ _ (writtenAccount_desk ..) fun h =>
            ⟨by rw [writtenAccount_heldAmt]; exact h.1, .inr (.inl rfl)⟩)

theorem keeps_accountWriteBlock (b : Nat) (r : AccountFields) : Keeps none none s (s.accountWriteBlock b r).state := by
  unfold State.accountWriteBlock
  split
  · exact keeps_refuse ..
  · split
    · exact keeps_vacateBlock ..
    · exact keeps_keepBlock ..
    · exact keeps_keepBlock ..
    · exact keeps_refuse ..

theorem keeps_feeClassWriteBlock (k stemFee percentage minimum : Nat) :
    Keeps none none s (s.feeClassWriteBlock k stemFee percentage minimum).state := by
  have h : ∀ f, Keeps none none s { s with fees := Tab.set FeeClass.zero s.fees k f } := fun f =>
    { feeTable := Tab.wf_set _ _ _ _ }
  unfold State.feeClassWriteBlock
  split
  · exact keeps_refuse ..
  · exact keeps_ok s _ (h _)

theorem keeps_deskUnbindBlock (d : Nat) : Keeps none none s (s.deskUnbindBlock d).state := by
  unfold State.deskUnbindBlock
  split
  · exact keeps_refuse ..
  · split
    · exact keeps_refuse ..
    · split
      · exact keeps_ok s _ (.refl _ s)
      · next b hb => exact keeps_ok s _ (keeps_unbind s d b hb)

theorem AcctCell.format_vacant : AcctCell.format AcctCell.vacant = AcctCell.vacant := rfl

theorem keeps_format : Keeps none none s s.format := by
  unfold State.format
  exact
  { lotTable := Tab.wf_mapAll _ (fun _ c => LotCell.format c) _
    acctTable := Tab.wf_mapAll _ (fun _ c => AcctCell.format c) _
    sums := fun h => Tab.forall_mapAll (f := fun _ c => LotCell.format c)
      (P := fun c : LotCell => ∀ q, c.lot = some q → LotRec.addsUp q) h fun _ c hc q hq => by
        obtain ⟨r, hr, rfl⟩ := Option.map_eq_some_iff.1 hq
        exact hc r hr
    within := fun h => Tab.forall_mapAll (f := fun _ c => AcctCell.format c)
      (P := fun c : AcctCell => WithinLimit c.acct) h fun _ _ hc => hc
    bound := fun _ hwf hb d b => by
      change _ ↔ (Tab.get AcctCell.vacant
        (Tab.mapAll AcctCell.vacant (fun _ c => AcctCell.format c) s.accounts) b).acct.desk = some d
      rw [Tab.get_mapAll _ _ _ _ AcctCell.format_vacant hwf]
      exact hb d b
    reserved := fun _ h => ⟨h.table, h.counted, h.free, h.sells, h.halts⟩ }

theorem keeps_journalFormatBlock : Keeps none none s s.journalFormatBlock.state := by
  unfold State.journalFormatBlock
  split
  · exact keeps_refuse ..
  · exact keeps_ok s _ (keeps_format s)

theorem keeps_setTime (n : Nat) : Keeps none none s (s.setTime n) := { }

/-! ## Floor reset (R195) -/

/-- A clock at rest sells nothing and holds no reservation. -/
theorem keeps_closeClock (c : Nat) (h : (s.clock c).reserved = false) :
    Keeps (some c) none s (s.setClock c (s.clock c).floorReset) :=
  keeps_setClock_from s c _ (fun _ _ _ => Clock.reserves_of_idle rfl rfl rfl) (fun _ _ h => by cases h)
    (closes_exempt c) h.symm

theorem keeps_restClock (c : Nat) : Keeps none none s (State.restClock c s) := by
  have hrelease : Keeps none none s (match (s.clock c).winner with
      | none => s
      | some w => if (s.clock c).state = .settling ∨ (s.clock c).state = .held then s.releaseWinner w else s) := by
    split
    · exact .refl _ s
    · exact .ite (fun _ => keeps_releaseWinner ..) fun _ => .refl _ s
  unfold State.restClock
  dsimp only
  refine (hrelease.trans (keeps_giveUpReservation _ c)).trans (keeps_closeClock _ c ?_)
  rw [State.giveUpReservation_clock]

theorem lotAtFloorReset_addsUp {r : LotRec} (h : LotRec.addsUp r) : LotRec.addsUp (lotAtFloorReset r) := by
  unfold lotAtFloorReset
  split <;> exact h

theorem LotCell.floorReset_sum {c : LotCell} (h : ∀ q, c.lot = some q → LotRec.addsUp q) :
    ∀ q, (LotCell.floorReset c).lot = some q → LotRec.addsUp q := fun q hq => by
  unfold LotCell.floorReset at hq
  split at hq
  · exact h q hq
  · next r hr =>
    split at hq
    · exact h q hq
    · obtain rfl := Option.some.inj hq
      exact lotAtFloorReset_addsUp (h r hr)

theorem keeps_restTrain (n : Nat) : Keeps none none s (State.restTrain n s) := by
  unfold State.restTrain
  split
  · exact keeps_haltTrain ..
  · exact keeps_haltTrain ..
  · exact keeps_unqueue ..
  all_goals exact .refl _ s

theorem keeps_restYard : Keeps none none s s.restYard := by
  unfold State.restYard
  dsimp only
  refine (Keeps.each (fun n q => keeps_restTrain q n) s.trainNumbers s).trans ?_
  generalize State.each State.restTrain s.trainNumbers s = u
  exact
  { lotTable := Tab.wf_mapAll _ (fun _ c => LotCell.floorReset c) _
    sums := fun h => Tab.forall_mapAll (f := fun _ c => LotCell.floorReset c) (P := fun c : LotCell => ∀ q, c.lot = some q → LotRec.addsUp q) h
      fun _ _ hc => LotCell.floorReset_sum hc
    moves := fun _ => Nat.zero_le _
    windows := fun _ => by simp
    windowTable := fun _ => rfl
    queues := fun _ => by simp
    presTable := fun _ => rfl }

theorem keeps_restLine : Keeps none none s s.restLine where
  inbound := fun _ => Nat.zero_le _
  outbound := fun _ => Nat.zero_le _
  replies := fun _ => RepliesFirst.nil

theorem keeps_renameTrain (n : Nat) : Keeps none none s (State.renameTrain n s) := by
  unfold State.renameTrain
  split
  · exact keeps_nameTrain ..
  · exact .refl _ s

theorem keeps_floorReset : Keeps none none s s.floorReset := by
  unfold State.floorReset
  dsimp only
  exact (((((((keeps_abortTransfer s .auc).trans (keeps_abortTransfer _ .yrd)).trans
    (keeps_abortTransfer _ .fin)).trans (Keeps.each (fun c q => keeps_restClock q c) _ _)).trans
      (keeps_restYard _)).trans (keeps_restLine _)).trans
        (Keeps.each (fun n q => keeps_renameTrain q n) _ _)).trans (keeps_settle _)

/-! ## YRD (R25 to R27, R38, R39) -/

theorem keeps_trainGuard {a : Answer} (n : Nat) (h : Keeps none none s a.state) :
    Keeps none none s (trainGuard s n a).state := by
  unfold trainGuard
  split
  · exact h
  · exact keeps_refuse ..

/-- A change of several lots that keeps what each adds up to. -/
theorem keeps_eachLot (f : LotRec → LotRec) (l : List Nat)
    (h : ∀ q : LotRec, LotRec.addsUp q → LotRec.addsUp (f q)) :
    Keeps x x s (State.each (fun k q => q.updLot k f) l s) :=
  Keeps.each (fun k q => keeps_updLot q k f h) l s

theorem keeps_formTrain (n g : Nat) (lots : List Nat) : Keeps none none s (s.formTrain n g lots) := by
  unfold State.formTrain
  exact ((keeps_eachLot s _ lots (by exact fun _ => id)).trans (keeps_setSegState ..)).trans (keeps_setTrain ..)

theorem keeps_trainFormBlock (n g : Nat) (lots : List Nat) : Keeps none none s (s.trainFormBlock n g lots).state := by
  unfold State.trainFormBlock
  split
  · exact keeps_refuse ..
  · split
    · exact keeps_refuse ..
    · split
      · exact keeps_refuse ..
      · split
        · exact keeps_refuse ..
        · split
          · exact .refl _ s
          · exact keeps_ok s _ (keeps_formTrain ..)

theorem keeps_disband (n : Nat) : Keeps none none s (s.disband n) := by
  have hhead : ∀ u, Keeps none none u
      (match (s.train n).head with
        | none => u
        | some g => u.setSegState g .free) := fun u => by
    split
    · exact .refl _ u
    · exact keeps_setSegState ..
  unfold State.disband
  dsimp only
  exact (((keeps_eachLot s _ (s.train n).lots (by exact fun _ => id)).trans (hhead _)).trans
    (keeps_setTrain _ n _)).trans (keeps_reexamine _)

theorem keeps_trainDisbandBlock (n : Nat) : Keeps none none s (s.trainDisbandBlock n).state := by
  unfold State.trainDisbandBlock
  refine keeps_trainGuard s n ?_
  dsimp only
  split
  · split
    · exact keeps_ok s _ (keeps_disband ..)
    · exact keeps_refuse ..
  · exact keeps_refuse ..

theorem keeps_queueMove (n : Nat) (route : List Nat) (h : s.yard.moves.length < 16) :
    Keeps none none s (s.queueMove n route) :=
  (keeps_setMoves s _ fun _ => by simpa using h).trans (keeps_setTrain ..)

theorem keeps_trainMoveBlock (n : Nat) (route : List Nat) : Keeps none none s (s.trainMoveBlock n route).state := by
  have hqueue : Keeps none none s
      (if s.routeValid n route = false then Answer.refuse s .routeInvalid
        else if Config.moveQueueSize ≤ s.yard.moves.length then .refuse s .full
        else .ok (s.queueMove n route).reexamine (u1 (s.yard.moves.length + 1))).state := by
    split
    · exact keeps_refuse ..
    · split
      · exact keeps_refuse ..
      · next h => exact keeps_ok s _ ((keeps_queueMove s n route (Nat.not_le.1 h)).trans (keeps_reexamine _))
  unfold State.trainMoveBlock
  split
  · exact keeps_refuse ..
  · split
    · exact keeps_refuse ..
    · exact keeps_refuse ..
    · exact keeps_refuse ..
    · exact keeps_refuse ..
    · exact keeps_refuse ..
    all_goals exact hqueue

theorem keeps_moveRetryBlock (n : Nat) : Keeps none none s (s.moveRetryBlock n).state := by
  unfold State.moveRetryBlock
  refine keeps_trainGuard s n ?_
  dsimp only
  split
  · exact keeps_ok s _ (keeps_setTrain ..)
  · exact keeps_refuse ..

theorem keeps_moveCancelBlock (n : Nat) : Keeps none none s (s.moveCancelBlock n).state := by
  unfold State.moveCancelBlock
  refine keeps_trainGuard s n ?_
  dsimp only
  split
  · exact keeps_ok s _ (keeps_unqueue ..)
  · exact keeps_ok s _ ((keeps_haltTrain ..).trans (keeps_reexamine _))
  · exact keeps_ok s _ ((keeps_haltTrain ..).trans (keeps_reexamine _))
  all_goals exact keeps_refuse ..

/-! ## Notices and DATA (R185, R189, R190) -/

theorem keeps_noticeTakeBlock (p : Port) : Keeps none none s (s.noticeTakeBlock p).state := by
  unfold State.noticeTakeBlock
  split
  · exact keeps_refuse ..
  · exact keeps_ok s _ (keeps_setFlag ..)

theorem keeps_unitDone {a : Answer} (p : Port) (f : Xfer) (h : Keeps none none s a.state) :
    Keeps none none s (a.unitDone p f).state :=
  h.trans (keeps_countUnits ..)

theorem keeps_dataBlock {p : Port} {u : DataUnit} {a : Answer} (h : s.dataBlock p u = some a) :
    Keeps none none s a.state := by
  unfold State.dataBlock at h
  split at h
  · obtain rfl := Option.some.inj h
    exact keeps_refuse ..
  · split at h
    · obtain rfl := Option.some.inj h
      exact keeps_unitDone s p _ (keeps_writeLot ..)
    · obtain rfl := Option.some.inj h
      exact keeps_unitDone s p _ (keeps_writeSegment ..)
    · obtain rfl := Option.some.inj h
      exact keeps_unitDone s p _ (keeps_ok s _ (.refl _ s))
    · obtain rfl := Option.some.inj h
      exact keeps_ok s _ (.refl _ s)
    · cases h

end Sys2Proof.Machine
end

section
/-! What every command keeps: the commands given by frames through their blocks, the exchange, and the events. -/

namespace Sys2Proof.Machine

-- One declaration after another, within the memory that a check of the whole text has.
set_option Elab.async false

variable (s : State)

/-! ## Commands given by frames (R181, R182, R186) -/

/-- The block that answers a command given by a frame, DATA apart (R182). An event and DATA have none; they stand with the
answer to an undefined code, and no lemma speaks of them. -/
def Instr.block : Instr → State → Answer
  | .lotWrite p _ count r => fun q => q.lotWriteBlock p count r
  | .lotWithdraw _ _ k => fun q => q.lotWithdrawBlock k
  | .lotRelease _ _ k => fun q => q.lotReleaseBlock k
  | .layoutWrite p _ window transit count => fun q => q.layoutWriteBlock p window transit count
  | .segmentClear _ _ g => fun q => q.segmentClearBlock g
  | .accountWrite _ _ b r => fun q => q.accountWriteBlock b r
  | .feeClassWrite _ _ k stemFee percentage minimum => fun q => q.feeClassWriteBlock k stemFee percentage minimum
  | .deskUnbind _ _ d => fun q => q.deskUnbindBlock d
  | .journalFormat _ _ => fun q => q.journalFormatBlock
  | .timeSet _ _ value => fun q => .ok (q.setTime value) (u4 (value % Config.floorTimeSpan))
  | .floorReset _ _ => fun q => .ok q.floorReset []
  | .clockSet _ _ c r => fun q => q.clockSetBlock c r
  | .clockMode _ _ c on => fun q => q.clockModeBlock c on
  | .clockLoad _ _ c => fun q => q.clockLoadBlock c
  | .clockStart _ _ c => fun q => q.clockStartBlock c
  | .clockPause _ _ c => fun q => q.clockPauseBlock c
  | .clockResume _ _ c => fun q => q.clockResumeBlock c
  | .clockSkip _ _ c => fun q => q.clockSkipBlock c
  | .voidLast _ _ c => fun q => q.voidLastBlock c
  | .rehearsalRun _ _ c => fun q => q.rehearsalRunBlock c
  | .rehearsalClear _ _ c => fun q => q.rehearsalClearBlock c
  | .rehearsalReport p _ c => fun q => q.rehearsalReportBlock p c
  | .trainForm _ _ n g lots => fun q => q.trainFormBlock n g lots
  | .trainDisband _ _ n => fun q => q.trainDisbandBlock n
  | .trainMove _ _ n route => fun q => q.trainMoveBlock n route
  | .moveRetry _ _ n => fun q => q.moveRetryBlock n
  | .moveCancel _ _ n => fun q => q.moveCancelBlock n
  | .distRead _ _ n page => fun q => q.distReadBlock n page
  | .invoiceClose _ _ b => fun q => q.invoiceCloseBlock b
  | .invoiceCloseAll p _ => fun q => .ok (q.openTransfer p .closeAll none 0) []
  | .paymentPost _ _ b given => fun q => q.paymentPostBlock b given
  | .journalRead _ _ seq count => fun q => q.journalReadBlock seq count
  | .journalRelease _ _ n => fun q => q.journalReleaseBlock n
  | .lotRead _ _ k page => fun q => q.lotReadBlock k page
  | .trainRead _ _ n => fun q => trainGuard q n <| .ok q (q.trainBytes n)
  | .clockRead _ _ c page => fun q => clockGuard q c <| .ok q (q.clockPage c page)
  | .accountRead _ _ b => fun q => q.accountReadBlock b
  | .deskRead _ _ d => fun q => q.deskReadBlock d
  | .portStatus _ _ n => fun q => q.portStatusBlock n
  | .noticePeek p _ => fun q => .ok q (p.priorities.flatMap (q.noticeBytes p))
  | .noticeTake p _ => fun q => q.noticeTakeBlock p
  | .noticeEnable p _ mask => fun q =>
    .ok (q.setPort p { q.port p with mask := maskFor p mask }) (u1 (maskFor p mask).toNat)
  | _ => fun q => .refuse q .unknownCommand

/-- A command given by a frame, DATA apart, is its block, taken by the role that may give it (R182). -/
theorem exec_given {c : Instr} {p : Port} {t : Nat} (hc : c.given = some (p, t)) (hd : ∀ q n u, c ≠ .data q n u)
    (s : State) : exec c s = .next (s.command p t c.role (Instr.block c)) := by
  cases c with
  | data q n u => exact absurd rfl (hd q n u)
  | _ => cases hc <;> rfl

theorem keeps_command (p : Port) (t : Nat) (role : Option Port) (block : State → Answer)
    (h : ∀ q, Keeps none none q (block q).state) : Keeps none none s (s.command p t role block) := by
  rcases s.command_cases p role t block with ⟨-, he⟩ | ⟨-, -, he⟩ | ⟨-, -, he⟩ <;> rw [he]
  · exact .refl _ s
  · exact ((keeps_abortTransfer s p).trans (h _)).trans (keeps_putReply ..)
  · exact (keeps_abortTransfer s p).trans (keeps_putReply ..)

/-! ## Reads -/

theorem State.lotReadBlock_state (k page : Nat) : (s.lotReadBlock k page).state = s := by
  unfold State.lotReadBlock
  split <;> rfl

theorem State.accountReadBlock_state (b : Nat) : (s.accountReadBlock b).state = s := by
  unfold State.accountReadBlock
  split <;> rfl

theorem State.deskReadBlock_state (d : Nat) : (s.deskReadBlock d).state = s := by
  unfold State.deskReadBlock
  dsimp only
  split <;> rfl

theorem State.portStatusBlock_state (n : Nat) : (s.portStatusBlock n).state = s := by
  unfold State.portStatusBlock
  split <;> rfl

theorem State.distReadBlock_state (n page : Nat) : (s.distReadBlock n page).state = s := by
  unfold State.distReadBlock trainGuard
  dsimp only
  split
  · split <;> rfl
  · rfl

theorem keeps_of_eq {t : State} (h : t = s) : Keeps none none s t := by
  rw [h]
  exact .refl _ s

/-- The block of every command but JOURNAL_RELEASE keeps the invariants and what the journal holds. -/
theorem keeps_block (c : Instr) (hj : ∀ p t m, c ≠ .journalRelease p t m) (q : State) :
    Keeps none none q (Instr.block c q).state := by
  cases c with
  | lotWrite => exact keeps_lotWriteBlock ..
  | lotWithdraw => exact keeps_lotWithdrawBlock ..
  | lotRelease => exact keeps_lotReleaseBlock ..
  | layoutWrite => exact keeps_layoutWriteBlock ..
  | segmentClear => exact keeps_segmentClearBlock ..
  | accountWrite => exact keeps_accountWriteBlock ..
  | feeClassWrite => exact keeps_feeClassWriteBlock ..
  | deskUnbind => exact keeps_deskUnbindBlock ..
  | journalFormat => exact keeps_journalFormatBlock q
  | timeSet => exact keeps_ok q _ (keeps_setTime ..)
  | floorReset => exact keeps_ok q _ (keeps_floorReset q)
  | clockSet => exact keeps_clockSetBlock ..
  | clockMode => exact keeps_clockModeBlock ..
  | clockLoad => exact keeps_clockLoadBlock ..
  | clockStart => exact keeps_clockStartBlock ..
  | clockPause => exact keeps_clockPauseBlock ..
  | clockResume => exact keeps_clockResumeBlock ..
  | clockSkip => exact keeps_clockSkipBlock ..
  | voidLast => exact keeps_voidLastBlock ..
  | rehearsalRun => exact keeps_rehearsalRunBlock ..
  | rehearsalClear => exact keeps_rehearsalClearBlock ..
  | rehearsalReport => exact keeps_rehearsalReportBlock ..
  | trainForm => exact keeps_trainFormBlock ..
  | trainDisband => exact keeps_trainDisbandBlock ..
  | trainMove => exact keeps_trainMoveBlock ..
  | moveRetry => exact keeps_moveRetryBlock ..
  | moveCancel => exact keeps_moveCancelBlock ..
  | distRead => exact keeps_of_eq q (q.distReadBlock_state ..)
  | invoiceClose => exact keeps_invoiceCloseBlock ..
  | invoiceCloseAll => exact keeps_ok q _ (keeps_openTransfer ..)
  | paymentPost => exact keeps_paymentPostBlock ..
  | journalRead => exact keeps_of_eq q (q.journalReadBlock_state ..)
  | journalRelease p t m => exact absurd rfl (hj p t m)
  | lotRead => exact keeps_of_eq q (q.lotReadBlock_state ..)
  | trainRead => exact keeps_trainGuard q _ (keeps_ok q _ (.refl _ q))
  | clockRead => exact keeps_clockGuard q _ (keeps_ok q _ (.refl _ q))
  | accountRead => exact keeps_of_eq q (q.accountReadBlock_state ..)
  | deskRead => exact keeps_of_eq q (q.deskReadBlock_state ..)
  | portStatus => exact keeps_of_eq q (q.portStatusBlock_state ..)
  | noticePeek => exact keeps_ok q _ (.refl _ q)
  | noticeTake => exact keeps_noticeTakeBlock ..
  | noticeEnable => exact keeps_ok q _ (keeps_setPort_same q _ _)
  | _ => exact keeps_refuse ..

end Sys2Proof.Machine
end

section
/-! What a turn of the part keeps: a command, an exchange or an event by which the part stays on or off as it was. -/

namespace Sys2Proof.Machine

-- One declaration after another, within the memory that a check of the whole text has.
set_option Elab.async false

variable {s t u : State}

/-- What a command keeps that may free entries of the journal: an entry that is still held reads as it did (R149). -/
structure Turns (s t : State) : Prop extends Sound s t where
  within : AcctsWithin s.accounts → AcctsWithin t.accounts := by exact id
  entries : s.isOn = true → Reserved none s.journal s.clocks → ∀ k, s.journal.Held k → t.journal.Held k →
    Tab.get none t.journal.places k = Tab.get none s.journal.places k := by
    exact fun _ _ _ _ _ => rfl

theorem Keeps.turns (h : Keeps none none s t) : Turns s t :=
  { h with entries := fun hon hr k hk _ => (h.entries hon hr k hk).2 }

theorem Turns.refl (s : State) : Turns s s := (Keeps.refl none s).turns

theorem Keeps.thenTurns (h : Keeps none none s t) (g : Turns t u) : Turns s u where
  toSound := h.toSound.trans g.toSound
  within := g.within ∘ h.within
  entries := fun hon hr k hs hu => by
    obtain ⟨hk, hp⟩ := h.entries hon hr k hs
    exact (g.entries (h.on.trans hon) (h.reserved hon hr) k hk hu).trans hp

/-- A change that leaves the journal may follow. -/
theorem Turns.thenKeeps (h : Turns s t) (g : Keeps none none t u) (hj : u.journal = t.journal) : Turns s u where
  toSound := h.toSound.trans g.toSound
  within := g.within ∘ h.within
  entries := fun hon hr k hs hu => by
    rw [hj] at hu ⊢
    exact h.entries hon hr k hs hu

/-! ## JOURNAL_RELEASE (R155) -/

/-- A table from which records are left out by their numbers reads the others as it did. -/
theorem Tab.get_filter_key {α : Type} (d : α) (t : Tab α) (p : Nat → Bool) (k : Nat) (hk : p k = true) :
    Tab.get d (t.filter fun c => p c.1) k = Tab.get d t k := by
  induction t with
  | nil => rfl
  | cons c t ih =>
    by_cases hc : c.1 = k
    · subst hc
      simp [hk, Tab.get]
    · by_cases hp : p c.1 = true <;> simp [hp, Tab.get, hc, ih]

/-- A place that is held after the `n` oldest entries are freed is one that they do not clear. -/
theorem kept_of_held {o used n k : Nat} (hfit : used ≤ 8192)
    (h : ∃ i, i < used - n ∧ k = ((o + n) % 8192 + i) % 8192) :
    n ≤ (k + 8192 - o % 8192) % 8192 := by
  obtain ⟨i, hi, rfl⟩ := h
  omega

theorem turns_releaseOldest (s : State) (n : Nat) : Turns s (s.releaseOldest n) := by
  unfold State.releaseOldest
  exact
  { placeTable := fun h => Tab.wf_filter none s.journal.places _ h
    entries := fun _ hr k _ hk => Tab.get_filter_key none s.journal.places
      (fun j => decide (n ≤ (j + 8192 - s.journal.copy1.values.oldestPlace % 8192) % 8192)) k
      (decide_eq_true (kept_of_held ((Nat.le_add_right _ _).trans hr.free) hk)) }

theorem turns_command_release (s : State) (p : Port) (t m : Nat) :
    Turns s (s.command p t (some .fin) fun q => q.journalReleaseBlock m) := by
  rcases s.command_cases p (some .fin) t fun q => q.journalReleaseBlock m with
    ⟨-, he⟩ | ⟨-, -, he⟩ | ⟨-, -, he⟩ <;> rw [he]
  · exact .refl s
  · exact (keeps_abortTransfer s p).thenTurns
      ((turns_releaseOldest _ _).thenKeeps (keeps_putReply _ p t _ _) (by cases p <;> rfl))
  · exact ((keeps_abortTransfer s p).trans (keeps_putReply ..)).turns

/-! ## Commands and exchanges (R181, R185, R192) -/

/-- The command is taken, and the part turns as every command but those of the supply and the reset line does. -/
def TurnsBy (c : Instr) (s : State) : Prop := ∃ t, exec c s = .next t ∧ Turns s t

theorem turnsBy_of_keeps {c : Instr} (h : Keeps none none s t) (he : exec c s = .next t := by rfl) : TurnsBy c s :=
  ⟨t, he, h.turns⟩

theorem turnsBy_data (p : Port) (t : Nat) (d : DataUnit) (s : State) : TurnsBy (.data p t d) s := by
  refine ⟨_, rfl, ?_⟩
  split
  · split
    · exact .refl s
    · next a h => exact ((keeps_dataBlock s h).trans (keeps_putReply _ p t a.code a.fields)).turns
  · exact .refl s

theorem turnsBy_given {c : Instr} {p : Port} {t : Nat} (hc : c.given = some (p, t)) (s : State) : TurnsBy c s := by
  by_cases hj : ∃ q n m, c = .journalRelease q n m
  · obtain ⟨q, n, m, rfl⟩ := hj
    exact ⟨_, rfl, turns_command_release s q n m⟩
  · by_cases hd : ∃ q n d, c = .data q n d
    · obtain ⟨q, n, d, rfl⟩ := hd
      exact turnsBy_data q n d s
    · exact turnsBy_of_keeps
        (keeps_command s p t c.role _ (keeps_block c fun q n m he => hj ⟨q, n, m, he⟩))
        (exec_given hc (fun q n d he => hd ⟨q, n, d, he⟩) s)

/-- A frame that spells a command is the command; an event is spelt by none. -/
theorem takeFrame_eq (c : Instr) (s : State) :
    (∃ p t, c.given = some (p, t)) ∧ takeFrame c s = exec c s ∨ takeFrame c s = .next s := by
  cases c with
  | portExchange | invoiceWalkStep | deskFrameReceive | stop | quantity | signIn | signOut | statusAsk
  | malformedFrameDiscard | pendingStartDue | stepTimerExpiry | settleExpiry | holdTimerExpiry | restartTimerExpiry
  | launchWindowAgeOut | transitTimerExpiry | senseLineChange | senseFilterExpiry | frameSendBegin | broadcastSent
  | disturbance | replyDelivered | replyNotDelivered | supplyWarn | supplyRestored | supplyFail | supplyReturn
  | resetLineAssert | resetLineRelease | powerUpSequence | floorTimeMillisecond => exact .inr rfl
  | _ => exact .inl ⟨⟨_, _, rfl⟩, rfl⟩

theorem turns_takeFrame (c : Instr) (s : State) : ∃ t, takeFrame c s = .next t ∧ Turns s t := by
  rcases takeFrame_eq c s with ⟨⟨p, t, hc⟩, he⟩ | he
  · rw [he]
    exact turnsBy_given hc s
  · exact ⟨s, he, .refl s⟩

theorem keeps_drive (s : State) (p : Port) (bytes : List Byte) : Keeps none none s (s.drive p bytes) :=
  keeps_setPort_same s p _

theorem keeps_setMailbox (s : State) (p : Port) (bytes : List Byte) : Keeps none none s (s.setMailbox p bytes) :=
  keeps_setPort_same s p _

theorem turns_exchange (s : State) (p : Port) (given : List Byte) :
    ∃ t, s.exchange p given = .next t ∧ Turns s t := by
  have h : Keeps none none s (((s.drive p (s.returnedBytes p)).setMailbox p given).setMailbox p []) :=
    ((keeps_drive s p _).trans (keeps_setMailbox _ p given)).trans (keeps_setMailbox _ p [])
  unfold State.exchange
  dsimp only
  split
  · exact ⟨_, rfl, h.turns⟩
  · split
    · exact ⟨_, rfl, h.turns⟩
    · next c _ =>
      obtain ⟨t, he, ht⟩ := turns_takeFrame c (((s.drive p (s.returnedBytes p)).setMailbox p _).setMailbox p [])
      exact ⟨t, he, h.thenTurns ht⟩

theorem turnsBy_portExchange (p : Port) (given : List Byte) (s : State) : TurnsBy (.portExchange p given) s := by
  change ∃ t, execPortExchange p given s = .next t ∧ Turns s t
  unfold execPortExchange
  split
  · exact ⟨_, rfl, (keeps_drive s p _).turns⟩
  · exact ⟨_, rfl, (keeps_drive s p _).turns⟩
  · exact turns_exchange s p given
  · exact turns_exchange s p given

/-! ## Frames of the desks at their turn (R170) -/

theorem turnsBy_stop (s : State) : TurnsBy .stop s := by
  change ∃ t, execStop s = .next t ∧ Turns s t
  unfold execStop
  split
  · exact ⟨_, rfl, ((keeps_handOn s).trans (keeps_takeStopFrame ..)).turns⟩
  · exact ⟨_, rfl, .refl s⟩

theorem turnsBy_quantity (s : State) : TurnsBy .quantity s := by
  change ∃ t, execQuantity s = .next t ∧ Turns s t
  unfold execQuantity
  split
  · exact ⟨_, rfl, ((keeps_handOn s).trans (keeps_takeQuantityFrame ..)).turns⟩
  · exact ⟨_, rfl, .refl s⟩

theorem turnsBy_signIn (s : State) : TurnsBy .signIn s := by
  change ∃ t, execSignIn s = .next t ∧ Turns s t
  unfold execSignIn
  split
  · exact ⟨_, rfl, ((keeps_handOn s).trans (keeps_judgeSignIn ..)).turns⟩
  · exact ⟨_, rfl, .refl s⟩

theorem turnsBy_signOut (s : State) : TurnsBy .signOut s := by
  change ∃ t, execSignOut s = .next t ∧ Turns s t
  unfold execSignOut
  split
  · exact ⟨_, rfl, ((keeps_handOn s).trans (keeps_judgeSignOut ..)).turns⟩
  · exact ⟨_, rfl, .refl s⟩

theorem turnsBy_statusAsk (s : State) : TurnsBy .statusAsk s := by
  change ∃ t, execStatusAsk s = .next t ∧ Turns s t
  unfold execStatusAsk
  split
  · exact ⟨_, rfl, ((keeps_handOn s).trans (keeps_answerStatus ..)).turns⟩
  · exact ⟨_, rfl, .refl s⟩

theorem turnsBy_malformedFrameDiscard (s : State) : TurnsBy .malformedFrameDiscard s := by
  change ∃ t, execMalformedFrameDiscard s = .next t ∧ Turns s t
  unfold execMalformedFrameDiscard
  split
  · exact ⟨_, rfl, (keeps_handOn s).turns⟩
  · exact ⟨_, rfl, .refl s⟩

/-! ## Events of the clocks and of the yard (R22, R31, R37, R55, R71, R75, R103, R107) -/

theorem turnsBy_stepTimerExpiry (c : Nat) (s : State) : TurnsBy (.stepTimerExpiry c) s :=
  turnsBy_of_keeps (.ite (fun h => .ite (fun _ => keeps_stepOn s c) fun _ => keeps_runOut s c (s.timeUp_state h))
    fun _ => .refl _ s)

theorem turnsBy_settleExpiry (c : Nat) (s : State) : TurnsBy (.settleExpiry c) s :=
  turnsBy_of_keeps (.ite (fun h => keeps_settleUp s c (s.timeUp_state h)) fun _ => .refl _ s)

theorem turnsBy_holdTimerExpiry (c : Nat) (s : State) : TurnsBy (.holdTimerExpiry c) s :=
  turnsBy_of_keeps (.ite (fun h => keeps_holdUp s c (s.timeUp_state h)) fun _ => .refl _ s)

theorem turnsBy_launchWindowAgeOut (g : Nat) (s : State) : TurnsBy (.launchWindowAgeOut g) s :=
  turnsBy_of_keeps (.ite (fun _ => (keeps_setWindow s g (s.window g).tail fun h => by
    rw [List.length_tail]
    exact (Nat.sub_le _ _).trans h).trans (keeps_reexamine _)) fun _ => .refl _ s)

theorem turnsBy_transitTimerExpiry (n : Nat) (s : State) : TurnsBy (.transitTimerExpiry n) s :=
  turnsBy_of_keeps (.ite (fun _ => keeps_stall s n .transit) fun _ => .refl _ s)

theorem keeps_filterChange (s : State) (g : Nat) (l : SegLayout) : Keeps none none s (s.filterChange g l) := by
  unfold State.filterChange
  dsimp only
  exact .ite (fun _ => keeps_setSeg ..) fun _ => .ite (fun _ => (keeps_takeEdge ..).trans (keeps_settle _))
    fun _ => keeps_setSeg ..

theorem keeps_setSense (s : State) (g : Nat) (level : Bool) : Keeps none none s (s.setSense g level) where
  senseTable := Tab.wf_set _ _ _ _

theorem keeps_senseChange (s : State) (g : Nat) (level : Bool) : Keeps none none s (s.senseChange g level) := by
  unfold State.senseChange
  dsimp only
  split
  · exact keeps_setSense ..
  · exact .ite (fun _ => (keeps_setSense s g level).trans (keeps_filterChange ..)) fun _ => keeps_setSense ..

theorem turnsBy_senseLineChange (g : Nat) (level : Bool) (s : State) : TurnsBy (.senseLineChange g level) s :=
  turnsBy_of_keeps (.ite (fun _ => keeps_senseChange s g level) fun _ => .refl _ s)

theorem turnsBy_senseFilterExpiry (g : Nat) (s : State) : TurnsBy (.senseFilterExpiry g) s := by
  change ∃ t, execSenseFilterExpiry g s = .next t ∧ Turns s t
  unfold execSenseFilterExpiry
  split
  · exact ⟨_, rfl, ((keeps_takeEdge s g _).trans (keeps_settle _)).turns⟩
  · exact ⟨_, rfl, .refl s⟩

/-! ## Frames of the part (R174, R175) -/

theorem turnsBy_broadcastSent (s : State) : TurnsBy .broadcastSent s := by
  change ∃ t, execBroadcastSent s = .next t ∧ Turns s t
  unfold execBroadcastSent
  split
  · exact ⟨_, rfl, .refl s⟩
  · next f _ =>
    have h : Keeps none none s (s.sentWhole f) := .ite (fun _ => keeps_setSending ..) fun _ => keeps_leaveHead s
    exact ⟨_, rfl, (Keeps.ite (fun _ => .refl _ s) fun _ => h).turns⟩

theorem turnsBy_disturbance (s : State) : TurnsBy .disturbance s := by
  change ∃ t, execDisturbance s = .next t ∧ Turns s t
  unfold execDisturbance
  split
  · exact ⟨_, rfl, .refl s⟩
  · exact ⟨_, rfl, (keeps_failed ..).turns⟩

theorem turnsBy_replyDelivered (s : State) : TurnsBy .replyDelivered s := by
  change ∃ t, execReplyDelivered s = .next t ∧ Turns s t
  unfold execReplyDelivered
  split
  · exact ⟨_, rfl, .refl s⟩
  · split
    · exact ⟨_, rfl, (keeps_delivered ..).turns⟩
    all_goals exact ⟨_, rfl, .refl s⟩

theorem turnsBy_replyNotDelivered (s : State) : TurnsBy .replyNotDelivered s := by
  change ∃ t, execReplyNotDelivered s = .next t ∧ Turns s t
  unfold execReplyNotDelivered
  split
  · exact ⟨_, rfl, .refl s⟩
  · next f _ => exact ⟨_, rfl, (Keeps.ite (fun _ => keeps_failed s f) fun _ => .refl _ s).turns⟩

/-! ## The supply monitor between NORMAL and LOW (R81, R158) -/

theorem keeps_setLevel (s : State) (l : SupplyLevel) : Keeps none none s (s.setLevel l) := { }

theorem keeps_setMonitor (s : State) (m : Monitor) (hm : m = .normal ∨ m = .low) (hon : s.isOn = true) :
    Keeps none none s (s.setMonitor m) where
  on := by
    rw [hon]
    rcases hm with rfl | rfl <;> rfl

theorem keeps_goLow (s : State) (hon : s.isOn = true) : Keeps none none s s.goLow := by
  unfold State.goLow
  exact (((keeps_setMonitor s .low (.inr rfl) hon).trans (keeps_raise _ .sup .supply (.supply false))).trans
    (Keeps.each (fun c q => keeps_warnClock q c) clockNumbers _)).trans (keeps_judgeClocks _ none)

theorem keeps_goNormal (s : State) (hon : s.isOn = true) : Keeps none none s s.goNormal := by
  unfold State.goNormal
  exact ((keeps_setMonitor s .normal (.inl rfl) hon).trans (keeps_raise _ .sup .supply (.supply true))).trans
    (keeps_reexamine _)

theorem State.isOn_of_normal (h : s.power.monitor = .normal) : s.isOn = true := by simp [State.isOn, h]

theorem State.isOn_of_low (h : s.power.monitor = .low) : s.isOn = true := by simp [State.isOn, h]

theorem turnsBy_supplyWarn (s : State) : TurnsBy .supplyWarn s := by
  refine turnsBy_of_keeps (.ite (fun _ => ?_) fun _ => .refl _ s)
  exact .ite (fun h => (keeps_setLevel s .belowWarn).trans (keeps_goLow _ (State.isOn_of_normal h)))
    fun _ => keeps_setLevel ..

theorem turnsBy_supplyRestored (s : State) : TurnsBy .supplyRestored s := by
  refine turnsBy_of_keeps (.ite (fun _ => ?_) fun _ => .refl _ s)
  exact .ite (fun h => (keeps_setLevel s .good).trans (keeps_goNormal _ (State.isOn_of_low h)))
    fun _ => keeps_setLevel ..

/-! ## A millisecond (R193) -/

/-- A clock whose timer has counted one millisecond down. -/
def Clock.older (k : Clock) : Clock := { k with timer := countDown k.timer }

theorem keeps_millisecond (s : State) : Keeps none none s s.millisecond := by
  unfold State.millisecond Yard.millisecond
  exact
  { segTable := Tab.wf_mapAll _ (fun _ (x : Segment) => { x with timing := x.timing.map FilterTiming.nearer }) _
    trainTable := Tab.wf_mapAll _ (fun _ (r : Train) => { r with timer := countDown r.timer }) _
    windowTable := Tab.wf_mapAll _ (fun _ (w : List Launch) => w.map Launch.older) _
    presTable := Tab.wf_mapAll _ (fun _ (p : Pres) => p.older) _
    clockTable := Tab.wf_mapAll _ (fun _ k => Clock.older k) _
    windows := fun h => Tab.forall_mapAll (f := fun _ (w : List Launch) => w.map Launch.older)
      (P := fun w : List Launch => w.length ≤ 4) h fun _ w hw => by rwa [List.length_map]
    queues := fun h => Tab.forall_mapAll (f := fun _ (p : Pres) => p.older)
      (P := fun p : Pres => p.queue.length ≤ 8) h fun _ p hp => by
        change (p.queue.map QEntry.older).length ≤ 8
        rwa [List.length_map]
    reserved := fun _ h => by
      have hget : ∀ c, Tab.get Clock.reset
          (Tab.mapAll Clock.reset (fun _ k => Clock.older k) s.clocks) c =
          Clock.older (Tab.get Clock.reset s.clocks c) := fun c =>
        Tab.get_mapAll Clock.reset (fun _ k => Clock.older k) _ c rfl h.table
      exact
      { table := Tab.wf_mapAll _ (fun _ k => Clock.older k) _ h.table
        counted := h.counted.trans (Tab.countP_mapAll (d := Clock.reset)
          (f := fun _ k => Clock.older k) s.clocks (fun k => k.reserved) rfl
            fun _ _ => rfl).symm
        free := h.free
        sells := fun c hc => by
          change Clock.Reserves (Tab.get _ (Tab.mapAll _ (fun _ k => Clock.older k) _) c)
          rw [hget]
          exact (h.sells c hc).of_same
        halts := fun c => by
          change (Tab.get _ (Tab.mapAll _ (fun _ k => Clock.older k) _) c).waitHalt.isSome =
            true → (Tab.get _ (Tab.mapAll _ (fun _ k => Clock.older k) _) c).state = .running
          rw [hget]
          exact h.halts c } }

/-! ## Every command but those of the supply and the reset line -/

/-- A command by which the part may be halted or started (R158 to R163). -/
def Instr.powers : Instr → Bool
  | .supplyFail | .supplyReturn _ | .resetLineAssert | .resetLineRelease | .powerUpSequence => true
  | _ => false

theorem turnsBy_of_not_powers (c : Instr) (h : Instr.powers c = false) (s : State) : TurnsBy c s := by
  cases c with
  | portExchange p given => exact turnsBy_portExchange p given s
  | invoiceWalkStep => exact turnsBy_of_keeps (.ite (fun _ => keeps_walkStep s) fun _ => .refl _ s)
  | deskFrameReceive f => exact turnsBy_of_keeps (.ite (fun _ => keeps_receive s f) fun _ => .refl _ s)
  | stop => exact turnsBy_stop s
  | quantity => exact turnsBy_quantity s
  | signIn => exact turnsBy_signIn s
  | signOut => exact turnsBy_signOut s
  | statusAsk => exact turnsBy_statusAsk s
  | malformedFrameDiscard => exact turnsBy_malformedFrameDiscard s
  | pendingStartDue k => exact turnsBy_of_keeps (.ite (fun _ => keeps_judgeStart s k) fun _ => .refl _ s)
  | stepTimerExpiry k => exact turnsBy_stepTimerExpiry k s
  | settleExpiry k => exact turnsBy_settleExpiry k s
  | holdTimerExpiry k => exact turnsBy_holdTimerExpiry k s
  | restartTimerExpiry k => exact turnsBy_of_keeps (.ite (fun _ => keeps_restartUp s k) fun _ => .refl _ s)
  | launchWindowAgeOut g => exact turnsBy_launchWindowAgeOut g s
  | transitTimerExpiry n => exact turnsBy_transitTimerExpiry n s
  | senseLineChange g level => exact turnsBy_senseLineChange g level s
  | senseFilterExpiry g => exact turnsBy_senseFilterExpiry g s
  | frameSendBegin => exact turnsBy_of_keeps (.ite (fun _ => keeps_beginSending s) fun _ => .refl _ s)
  | broadcastSent => exact turnsBy_broadcastSent s
  | disturbance => exact turnsBy_disturbance s
  | replyDelivered => exact turnsBy_replyDelivered s
  | replyNotDelivered => exact turnsBy_replyNotDelivered s
  | supplyWarn => exact turnsBy_supplyWarn s
  | supplyRestored => exact turnsBy_supplyRestored s
  | floorTimeMillisecond => exact turnsBy_of_keeps (.ite (fun _ => keeps_millisecond s) fun _ => .refl _ s)
  | supplyFail | supplyReturn | resetLineAssert | resetLineRelease | powerUpSequence => cases h
  | _ => exact turnsBy_given rfl s

end Sys2Proof.Machine
end

section
/-! The halt, the return of the supply and the power-up sequence, and what a step of the part keeps. -/

namespace Sys2Proof.Machine

-- One declaration after another, within the memory that a check of the whole text has.
set_option Elab.async false

variable {s t u : State}

/-- What every command keeps, the lots and the journal's entries apart. -/
structure Kept (s t : State) : Prop where
  pending : t.pending = s.pending
  queues : s.QueuesFit → t.QueuesFit
  replies : s.RepliesAhead → t.RepliesAhead
  tables : s.TablesWf → t.TablesWf
  limits : s.OverHolds → t.OverHolds
  bindings : s.BindingsAgree → t.BindingsAgree

theorem Kept.trans (h : Kept s t) (g : Kept t u) : Kept s u :=
  ⟨g.pending.trans h.pending, g.queues ∘ h.queues, g.replies ∘ h.replies, g.tables ∘ h.tables, g.limits ∘ h.limits,
    g.bindings ∘ h.bindings⟩

theorem Turns.kept (h : Turns s t) : Kept s t where
  pending := h.pending
  queues := fun hs => ⟨h.inbound hs.inbound, h.outbound hs.outbound, h.moves hs.moves, h.windows hs.windows,
    h.queues hs.queues⟩
  replies := fun hs => t.repliesAhead_iff.2 (h.replies (s.repliesAhead_iff.1 hs))
  tables := fun hs => ⟨h.lotTable hs.lots, h.acctTable hs.accounts, h.placeTable hs.places, h.segTable hs.segs,
    h.trainTable hs.trains, h.windowTable hs.windows, h.senseTable hs.sense, h.presTable hs.pres,
    h.clockTable hs.clocks, h.feeTable hs.fees, h.deskTable hs.desks, h.flagTables hs.flags⟩
  limits := fun hs hon => h.within (hs (h.on ▸ hon))
  bindings := fun hs => ⟨h.deskTable hs.desks, h.acctTable hs.accounts, fun hon =>
    h.bound hs.desks hs.accounts (hs.agree (h.on ▸ hon))⟩

theorem Turns.lotsAddUp (h : Turns s t) (hs : s.LotsAddUp) : t.LotsAddUp := ⟨h.change hs.change, h.sums hs.lots⟩

/-! ## A part that is halted (R160) -/

/-- On a part that is not on, the queues and the tables are all that is left to keep. -/
theorem Kept.of_off (hoff : t.isOn = false) (hp : t.pending = s.pending) (hq : s.QueuesFit → t.QueuesFit)
    (hr : s.RepliesAhead → t.RepliesAhead) (ht : s.TablesWf → t.TablesWf)
    (hd : Tab.wf Desk.reset s.desks = true → Tab.wf Desk.reset t.desks = true)
    (ha : Tab.wf AcctCell.vacant s.accounts = true → Tab.wf AcctCell.vacant t.accounts = true) : Kept s t :=
  ⟨hp, hq, hr, ht, fun _ hon => by simp [hoff] at hon,
    fun hs => ⟨hd hs.desks, ha hs.accounts, fun hon => by simp [hoff] at hon⟩⟩

theorem kept_halt (s : State) : Kept s s.halt := by
  refine .of_off rfl rfl (fun _ => ⟨Nat.zero_le _, Nat.zero_le _, Nat.zero_le _, nofun, nofun⟩)
    (fun _ => s.halt.repliesAhead_iff.2 .nil) (fun h => ⟨h.lots, h.accounts, h.places, rfl, rfl, rfl, h.sense, rfl,
      rfl, rfl, rfl, fun p => by cases p <;> rfl⟩) (fun _ => rfl) id

/-- A part that is neither on before nor after, or that goes off, with its tables and queues as they were. -/
theorem kept_power (s : State) (p : Power) (h : p.monitor = .off ∨ p.monitor = .starting) :
    Kept s { s with power := p } := by
  refine .of_off ?_ rfl (fun h => ⟨h.inbound, h.outbound, h.moves, h.windows, h.queues⟩)
    (fun h => ⟨h.behind, h.head, h.fresh⟩)
    (fun h => ⟨h.lots, h.accounts, h.places, h.segs, h.trains, h.windows, h.sense, h.pres, h.clocks, h.fees, h.desks,
      h.flags⟩) id id
  rcases h with h | h <;> simp [State.isOn, h]

/-- A change on a part that is halted or starting, which stays so. -/
structure OffKept (s t : State) : Prop where
  kept : Kept s t
  off : t.isOn = false

theorem OffKept.trans (h : OffKept s t) (g : OffKept t u) : OffKept s u := ⟨h.kept.trans g.kept, g.off⟩

/-- The store of a part that is off is written. -/
theorem offKept_store (hoff : s.isOn = false) (l : Tab LotCell) (a : Tab AcctCell) (j : Journal)
    (c : Option ChangeCell)
    (hl : Tab.wf LotCell.free s.lots = true → Tab.wf LotCell.free l = true)
    (ha : Tab.wf AcctCell.vacant s.accounts = true → Tab.wf AcctCell.vacant a = true)
    (hj : Tab.wf none s.journal.places = true → Tab.wf none j.places = true) :
    OffKept s { s with lots := l, accounts := a, journal := j, change := c } :=
  ⟨.of_off hoff rfl (fun h => ⟨h.inbound, h.outbound, h.moves, h.windows, h.queues⟩)
    (fun h => ⟨h.behind, h.head, h.fresh⟩)
    (fun h => ⟨hl h.lots, ha h.accounts, hj h.places, h.segs, h.trains, h.windows, h.sense, h.pres, h.clocks, h.fees,
      h.desks, h.flags⟩) id ha, hoff⟩

theorem offKept_foldl {α : Type} {f : State → α → State} (h : ∀ q a, q.isOn = false → OffKept q (f q a)) (l : List α)
    (s : State) (hs : OffKept t s) : OffKept t (l.foldl f s) := by
  induction l generalizing s with
  | nil => exact hs
  | cons a l ih => exact ih _ (hs.trans (h s a hs.off))

theorem offKept_refl (h : s.isOn = false) : OffKept s s := ⟨(Turns.refl s).kept, h⟩

theorem offKept_setLot (h : s.isOn = false) (k : Nat) (r : Option LotRec) : OffKept s (s.setLot k r) :=
  offKept_store h _ s.accounts s.journal s.change (Tab.wf_set _ _ _ _) id id

theorem offKept_setAcct (h : s.isOn = false) (b : Nat) (a : Account) : OffKept s (s.setAcct b a) :=
  offKept_store h s.lots _ s.journal s.change id (Tab.wf_set _ _ _ _) id

theorem offKept_setPlace (h : s.isOn = false) (k : Nat) (e : Option JEntry) : OffKept s (s.setPlace k e) :=
  offKept_store h s.lots s.accounts { s.journal with places := Tab.set none s.journal.places k e } s.change id id
    (Tab.wf_set _ _ _ _)

theorem offKept_setValues (h : s.isOn = false) (v : JournalValues) : OffKept s (s.setValues v) :=
  offKept_store h s.lots s.accounts _ s.change id id id

theorem offKept_find (h : s.isOn = false) (f : StoreFind) : OffKept s (s.find f) := by
  cases f with
  | lot k found w =>
    exact offKept_store h (Tab.set LotCell.free s.lots k { lot := found, found := some w }) s.accounts s.journal s.change
      (Tab.wf_set _ _ _ _) id id
  | account b found w =>
    exact offKept_store h s.lots (Tab.set AcctCell.vacant s.accounts b { acct := found, found := some w }) s.journal
      s.change id (Tab.wf_set _ _ _ _) id
  | entry k found => exact offKept_setPlace h k found
  | values second found w =>
    unfold State.find
    dsimp only
    split
    · exact offKept_store h s.lots s.accounts _ s.change id id id
    · exact offKept_store h s.lots s.accounts _ s.change id id id
  | change found w => exact offKept_store h s.lots s.accounts s.journal _ id id id

/-! ## The power-up sequence (R161 to R163) -/

theorem offKept_applyChange (h : s.isOn = false) (r : ChangeRec) : OffKept s (s.applyChange r) := by
  have hlots := offKept_foldl (fun q (c : Nat × Option LotRec) hq => offKept_setLot hq c.1 c.2) r.lots s (offKept_refl h)
  have haccounts := offKept_foldl (fun q (c : Nat × Account) hq => offKept_setAcct hq c.1 c.2) r.accounts _ hlots
  have hentries := offKept_foldl (fun q (c : Nat × Option JEntry) hq => offKept_setPlace hq c.1 c.2) r.entries _ haccounts
  unfold State.applyChange
  dsimp only
  split
  · exact hentries
  · exact hentries.trans (offKept_setValues hentries.off _)

theorem offKept_handleChange (h : s.isOn = false) : OffKept s s.handleChange := by
  unfold State.handleChange
  split
  · exact offKept_refl h
  · next c _ =>
    have happly : OffKept s (if c.passes then s.applyChange c.change else s) := by
      split
      · exact offKept_applyChange h _
      · exact offKept_refl h
    exact happly.trans (offKept_store happly.off _ _ _ none id id id)

theorem State.checkPlace_frame (s : State) (k seq : Nat) :
    s.checkPlace k seq = s ∨ ∃ e, s.checkPlace k seq = s.setPlace k e := by
  unfold State.checkPlace
  split
  · exact .inr ⟨_, rfl⟩
  · split
    · exact .inl rfl
    · exact .inr ⟨_, rfl⟩

theorem offKept_checkPlace (h : s.isOn = false) (k seq : Nat) : OffKept s (s.checkPlace k seq) := by
  rcases s.checkPlace_frame k seq with he | ⟨e, he⟩ <;> rw [he]
  · exact offKept_refl h
  · exact offKept_setPlace h k e

theorem offKept_each {f : Nat → State → State} (h : ∀ k q, q.isOn = false → OffKept q (f k q)) (l : List Nat)
    (s : State) (hs : OffKept t s) : OffKept t (State.each f l s) := by
  induction l generalizing s with
  | nil => exact hs
  | cons k l ih => exact ih _ (hs.trans (h k s hs.off))

theorem offKept_retainedPowerUp (h : s.isOn = false) (v : JournalValues) : OffKept s (s.retainedPowerUp v) := by
  have hcheck : OffKept s (s.checkEntries v) :=
    offKept_each (fun i q hq => offKept_checkPlace hq _ _) (List.range v.used) s (offKept_refl h)
  have hvalues := hcheck.trans (offKept_setValues hcheck.off { v with reserved := 0 })
  exact hvalues.trans (offKept_store hvalues.off _ _ _ _ (Tab.wf_mapAll _ (fun _ c => LotCell.powerUp c) _)
    (Tab.wf_mapAll _ (fun _ c => AcctCell.powerUp c) _) id)

/-- What a change makes of every record holds of every record listed after it. -/
theorem Tab.forall_mapAll_of {α : Type} [DecidableEq α] {P : α → Prop} {d : α} {f : Nat → α → α} (t : Tab α)
    (hf : ∀ k v, P (f k v)) : ∀ c ∈ Tab.mapAll d f t, P c.2 := fun c hc => by
  simp only [Tab.mapAll, List.mem_filter, List.mem_map] at hc
  obtain ⟨⟨e, -, rfl⟩, -⟩ := hc
  exact hf _ _

theorem acctAtPowerUp_withinLimit (a : Account) : WithinLimit (acctAtPowerUp a) := by
  refine ⟨le_refl _, fun hover => ?_⟩
  have h : overAtPowerUp { a with heldAmt := 0, desk := none } = false := hover
  simp only [overAtPowerUp, Bool.or_eq_false_iff, decide_eq_false_iff_not] at h
  exact Int.not_lt.1 h.2

/-- At power-up every account stands within its limit or is OVER, and none is bound (R147). -/
theorem State.retainedPowerUp_accounts (s : State) (v : JournalValues) :
    ∀ c ∈ (s.retainedPowerUp v).accounts, WithinLimit c.2.acct ∧ c.2.acct.desk = none :=
  Tab.forall_mapAll_of (P := fun c : AcctCell => WithinLimit c.acct ∧ c.acct.desk = none)
    (f := fun _ c => AcctCell.powerUp c) _ fun _ _ => ⟨acctAtPowerUp_withinLimit _, rfl⟩

/-- A part whose accounts stand within their limits, with bindings that agree, is switched on. -/
theorem kept_power_on (s : State) (p : Power) (hw : AcctsWithin s.accounts) (hb : Bound s.desks s.accounts) :
    Kept s { s with power := p } :=
  ⟨rfl, fun h => ⟨h.inbound, h.outbound, h.moves, h.windows, h.queues⟩, fun h => ⟨h.behind, h.head, h.fresh⟩,
    fun h => ⟨h.lots, h.accounts, h.places, h.segs, h.trains, h.windows, h.sense, h.pres, h.clocks, h.fees, h.desks,
      h.flags⟩, fun _ _ => hw, fun h => ⟨h.desks, h.accounts, fun _ => hb⟩⟩

theorem kept_startMonitor (s : State) (hw : AcctsWithin s.accounts) (hb : Bound s.desks s.accounts) :
    Kept s s.startMonitor := by
  unfold State.startMonitor
  split
  · exact kept_power_on s _ hw hb
  · exact (kept_power_on s _ hw hb).trans (keeps_raise _ .sup .supply (.supply false)).turns.kept

theorem Ports.started_flags (l a e : Nat) (r : Bool) (s : State) (p : Port) :
    Tab.wf Flag.clear (({ s with ports := Ports.started l a e r } : State).port p).flags = true := by
  cases p
  · exact decide_eq_true (by simp [Flag.clear])
  all_goals rfl

theorem offKept_started (h : s.isOn = false) (l a e : Nat) (r : Bool) :
    OffKept s { s with ports := Ports.started l a e r } :=
  ⟨.of_off h rfl (fun h => ⟨h.inbound, h.outbound, h.moves, h.windows, h.queues⟩) (fun h => ⟨h.behind, h.head, h.fresh⟩)
    (fun h => ⟨h.lots, h.accounts, h.places, h.segs, h.trains, h.windows, h.sense, h.pres, h.clocks, h.fees, h.desks,
      Ports.started_flags l a e r s⟩) id id, h⟩

theorem kept_powerUp (h : s.isOn = false) : Kept s s.powerUp := by
  unfold State.powerUp
  dsimp only
  generalize s.handleChange.checkedValues = v
  have hchange := offKept_handleChange h
  have hretained := hchange.trans (offKept_retainedPowerUp hchange.off v.1)
  have hhalt := hretained.trans ⟨kept_halt _, rfl⟩
  have haccts := s.handleChange.retainedPowerUp_accounts v.1
  have hdesk : ∀ b, (Tab.get AcctCell.vacant (s.handleChange.retainedPowerUp v.1).accounts b).acct.desk = none :=
    Tab.forall_get (P := fun c : AcctCell => c.acct.desk = none) (fun c hc => (haccts c hc).2) rfl
  refine (hhalt.trans (offKept_started hhalt.off _ _ _ v.2)).kept.trans (kept_startMonitor _ (fun c hc => (haccts c hc).1)
    fun d b => ?_)
  change (none : Option Nat) = some b ↔ (Tab.get AcctCell.vacant (s.handleChange.retainedPowerUp v.1).accounts b).acct.desk = some d
  rw [hdesk]
  exact ⟨nofun, nofun⟩

theorem State.checkEntries_frame (s : State) (v : JournalValues) : ∃ j, s.checkEntries v = { s with journal := j } := by
  unfold State.checkEntries
  generalize List.range v.used = l
  induction l generalizing s with
  | nil => exact ⟨s.journal, rfl⟩
  | cons i l ih =>
    change ∃ j, State.each _ l (s.checkPlace (heldAt v i).1 (heldAt v i).2) = _
    obtain ⟨j, hj⟩ := ih (s.checkPlace (heldAt v i).1 (heldAt v i).2)
    rcases s.checkPlace_frame (heldAt v i).1 (heldAt v i).2 with he | ⟨e, he⟩ <;> rw [he] at hj ⊢
    · exact ⟨j, hj⟩
    · exact ⟨j, hj⟩

theorem lotAtPowerUp_addsUp {r : LotRec} (h : LotRec.addsUp r) : LotRec.addsUp (lotAtPowerUp r) := by
  unfold lotAtPowerUp
  split <;> exact h

theorem LotCell.powerUp_sum {c : LotCell} (h : ∀ q, c.lot = some q → LotRec.addsUp q) :
    ∀ q, (LotCell.powerUp c).lot = some q → LotRec.addsUp q := fun q hq => by
  unfold LotCell.powerUp at hq
  split at hq
  · obtain ⟨r, hr, rfl⟩ := Option.map_eq_some_iff.1 hq
    exact lotAtPowerUp_addsUp (h r hr)
  · cases hq

theorem State.startMonitor_store (s : State) : s.startMonitor.lots = s.lots ∧ s.startMonitor.change = s.change := by
  unfold State.startMonitor
  split <;> exact ⟨rfl, rfl⟩

theorem powerUp_lotsAddUp (h : s.LotsAddUp) : s.powerUp.LotsAddUp := by
  have hchange : s.handleChange = s := by simp [State.handleChange, h.change]
  unfold State.powerUp
  rw [hchange]
  dsimp only
  generalize s.checkedValues = v
  obtain ⟨j, hj⟩ := s.checkEntries_frame v.1
  refine ⟨(State.startMonitor_store _).2.trans ?_, fun x hx => ?_⟩
  · change (s.checkEntries v.1).change = none
    rw [hj]
    exact h.change
  · rw [(State.startMonitor_store _).1] at hx
    change x ∈ Tab.mapAll LotCell.free (fun _ c => LotCell.powerUp c) (s.checkEntries v.1).lots at hx
    rw [hj] at hx
    exact Tab.forall_mapAll (P := fun c : LotCell => ∀ q, c.lot = some q → LotRec.addsUp q) h.lots
      (fun _ _ hc => LotCell.powerUp_sum hc) x hx

/-! ## Every command -/

theorem exec_kept (c : Instr) (s : State) : ∃ t, exec c s = .next t ∧ Kept s t := by
  cases hc : Instr.powers c with
  | false =>
    obtain ⟨t, he, h⟩ := turnsBy_of_not_powers c hc s
    exact ⟨t, he, h.kept⟩
  | true =>
    cases c with
    | supplyFail =>
      have hlevel : Kept s (s.setLevel .belowFail) := (keeps_setLevel s .belowFail).turns.kept
      change ∃ t, execSupplyFail s = .next t ∧ _
      unfold execSupplyFail
      dsimp only
      split
      · next h =>
        exact ⟨_, rfl, (hlevel.trans (keeps_goLow (s.setLevel .belowFail) (State.isOn_of_normal h)).turns.kept).trans
          (kept_halt _)⟩
      · exact ⟨_, rfl, hlevel.trans (kept_halt _)⟩
      · exact ⟨_, rfl, kept_power s _ (.inl rfl)⟩
      · exact ⟨_, rfl, hlevel⟩
    | supplyReturn found =>
      change ∃ t, execSupplyReturn found s = .next t ∧ _
      unfold execSupplyReturn
      split
      · next h =>
        have hoff : s.isOn = false := by simp [State.isOn, h]
        have hfound : OffKept s (found.foldl State.find s) :=
          offKept_foldl (fun q f hq => offKept_find hq f) found s (offKept_refl hoff)
        have hlevel := hfound.kept.trans (keeps_setLevel _ .good).turns.kept
        refine ⟨_, rfl, ?_⟩
        split
        · exact hlevel
        · exact hlevel.trans (kept_power _ _ (.inr rfl))
      all_goals exact ⟨_, rfl, (Turns.refl s).kept⟩
    | resetLineAssert =>
      have hreset : Kept s (s.setReset true) :=
        (show Keeps none none s (s.setReset true) from { }).turns.kept
      change ∃ t, execResetLineAssert s = .next t ∧ _
      unfold execResetLineAssert
      split
      · exact ⟨_, rfl, hreset⟩
      · exact ⟨_, rfl, hreset.trans (kept_power _ _ (.inl rfl))⟩
      · exact ⟨_, rfl, hreset.trans (kept_halt _)⟩
      · exact ⟨_, rfl, hreset.trans (kept_halt _)⟩
    | resetLineRelease =>
      change ∃ t, execResetLineRelease s = .next t ∧ _
      unfold execResetLineRelease
      refine ⟨_, rfl, ?_⟩
      split
      · exact kept_power s _ (.inr rfl)
      · exact (Turns.refl s).kept
    | powerUpSequence =>
      change ∃ t, execPowerUpSequence s = .next t ∧ _
      unfold execPowerUpSequence
      refine ⟨_, rfl, ?_⟩
      split
      · next h => exact kept_powerUp (by simp [State.isOn, h])
      · exact (Turns.refl s).kept
    | _ => cases hc

/-- The supply's failure and the reset line leave the store as the part held it, after the step to LOW if the part was
in NORMAL (R160). -/
theorem exec_halt_store (c : Instr) (s : State) (h1 : c ≠ .powerUpSequence) (h2 : ∀ l, c ≠ .supplyReturn l)
    (hp : Instr.powers c = true) :
    ∃ u t, exec c s = .next t ∧ Keeps none none s u ∧ t.lots = u.lots ∧ t.change = u.change ∧ t.journal = u.journal := by
  cases c with
  | supplyFail =>
    change ∃ u t, execSupplyFail s = .next t ∧ _
    unfold execSupplyFail
    dsimp only
    split
    · next h =>
      have hlow := (keeps_setLevel s .belowFail).trans (keeps_goLow (s.setLevel .belowFail) (State.isOn_of_normal h))
      revert hlow
      generalize (s.setLevel .belowFail).goLow = u
      exact fun hlow => ⟨u, u.halt, rfl, hlow, rfl, rfl, rfl⟩
    all_goals exact ⟨s, _, rfl, .refl _ s, rfl, rfl, rfl⟩
  | supplyReturn l => exact absurd rfl (h2 l)
  | resetLineAssert =>
    change ∃ u t, execResetLineAssert s = .next t ∧ _
    unfold execResetLineAssert
    split <;> exact ⟨s, _, rfl, .refl _ s, rfl, rfl, rfl⟩
  | resetLineRelease =>
    change ∃ u t, execResetLineRelease s = .next t ∧ _
    unfold execResetLineRelease
    split <;> exact ⟨s, _, rfl, .refl _ s, rfl, rfl, rfl⟩
  | powerUpSequence => exact absurd rfl h1
  | _ => cases hp

theorem exec_lotsAddUp (c : Instr) (s : State) (hc : ∀ l, c ≠ .supplyReturn l) (hs : s.LotsAddUp) (t : State)
    (ht : exec c s = .next t) : t.LotsAddUp := by
  by_cases h1 : c = .powerUpSequence
  · subst h1
    change execPowerUpSequence s = .next t at ht
    unfold execPowerUpSequence at ht
    obtain rfl := Host.Outcome.next.inj ht
    split
    · exact powerUp_lotsAddUp hs
    · exact hs
  · cases hp : Instr.powers c with
    | false =>
      obtain ⟨u, he, h⟩ := turnsBy_of_not_powers c hp s
      obtain rfl := Host.Outcome.next.inj (he.symm.trans ht)
      exact h.lotsAddUp hs
    | true =>
      obtain ⟨u, v, he, h, hl, hch, -⟩ := exec_halt_store c s h1 hc hp
      obtain rfl := Host.Outcome.next.inj (he.symm.trans ht)
      have hu := h.turns.lotsAddUp hs
      exact ⟨hch.trans hu.change, by rw [hl]; exact hu.lots⟩

/-- A command on a part that is on and whose reservations hold does not change a held entry that stays held. -/
theorem exec_entries (c : Instr) (s : State) (h1 : c ≠ .powerUpSequence) (h2 : ∀ l, c ≠ .supplyReturn l)
    (hr : s.ReservationsHold) (hon : s.isOn = true) (t : State) (ht : exec c s = .next t) (k : Nat)
    (hs : s.journal.Held k) (hk : t.journal.Held k) :
    Tab.get none t.journal.places k = Tab.get none s.journal.places k := by
  have hres := hr.reserved hon
  cases hp : Instr.powers c with
  | false =>
    obtain ⟨u, he, h⟩ := turnsBy_of_not_powers c hp s
    obtain rfl := Host.Outcome.next.inj (he.symm.trans ht)
    exact h.entries hon hres k hs hk
  | true =>
    obtain ⟨u, v, he, h, -, -, hj⟩ := exec_halt_store c s h1 h2 hp
    obtain rfl := Host.Outcome.next.inj (he.symm.trans ht)
    rw [hj]
    exact (h.entries hon hres k hs).2

/-! ## A step -/

/-- An empty queue idles; otherwise a step is the front command on the part with the queue's rest (log entry 6). -/
theorem step_cases {s t : State} (h : step s = .next t) :
    t = s ∨ ∃ c rest, s.pending = c :: rest ∧ exec c (s.withPending rest) = .next t := by
  unfold step at h
  split at h
  · cases h
    exact .inl rfl
  · next c rest hp => exact .inr ⟨c, rest, hp, h⟩

/-- What a step keeps: the queue of commands is none of what the invariants speak of. -/
theorem step_kept {s t : State} (h : step s = .next t) : s = t ∨ ∃ rest, Kept (s.withPending rest) t := by
  rcases step_cases h with rfl | ⟨c, rest, -, he⟩
  · exact .inl rfl
  · obtain ⟨u, hu, hk⟩ := exec_kept c (s.withPending rest)
    obtain rfl := Host.Outcome.next.inj (hu.symm.trans he)
    exact .inr ⟨rest, hk⟩

end Sys2Proof.Machine
end

section
/-! What every command and every step keeps: the queue of commands, the queues of the part, its tables, its lots, its
accounts, its bindings and the held entries of its journal. -/

namespace Sys2Proof.Proofs

open Machine

/-- Settles O2, by the rule of each command: `exec_kept` gives the next state of each. -/
theorem everyCommandLeavesTheCommandQueue : Obligations.EveryCommandLeavesTheCommandQueue := by
  intro c s
  obtain ⟨t, he, h⟩ := exec_kept c s
  exact ⟨t, he, h.pending⟩

/-- Settles O4: each command keeps the length and the order of every queue. -/
theorem everyStepKeepsTheQueues : Obligations.EveryStepKeepsTheQueues := by
  refine ⟨fun s t hs h => ?_, fun s t hs h => ?_⟩
  · rcases step_kept h with rfl | ⟨rest, hk⟩
    · exact hs
    · exact hk.queues ⟨hs.inbound, hs.outbound, hs.moves, hs.windows, hs.queues⟩
  · rcases step_kept h with rfl | ⟨rest, hk⟩
    · exact hs
    · exact hk.replies ⟨hs.behind, hs.head, hs.fresh⟩

/-- Settles O5: each write of a record and each change of a whole table keeps the table's form. -/
theorem everyStepKeepsTheTablesCanonical : Obligations.EveryStepKeepsTheTablesCanonical := by
  intro s t hs h
  rcases step_kept h with rfl | ⟨rest, hk⟩
  · exact hs
  · exact hk.tables ⟨hs.lots, hs.accounts, hs.places, hs.segs, hs.trains, hs.windows, hs.sense, hs.pres, hs.clocks,
      hs.fees, hs.desks, hs.flags⟩

/-- Settles O6: a purchase takes from the remaining stems what it adds to the list, a void gives it back. -/
theorem purchasedAndRemainingStemsEqualTheTotal : Obligations.PurchasedAndRemainingStemsEqualTheTotal := by
  intro s t hc hs h
  rcases step_cases h with rfl | ⟨c, rest, hp, he⟩
  · exact hs
  · exact exec_lotsAddUp c (s.withPending rest) (fun l hl => hc l rest (hl ▸ hp)) ⟨hs.change, hs.lots⟩ t he

/-- Settles O7: each booking judges OVER, and what is stored without being judged leaves the exposure no higher. -/
theorem accountsNotOverStandWithinTheirLimit : Obligations.AccountsNotOverStandWithinTheirLimit := by
  intro s t hs h
  rcases step_kept h with rfl | ⟨rest, hk⟩
  · exact hs
  · exact hk.limits hs

/-- Settles O8: a desk and an account are bound and unbound in one change. -/
theorem bindingsStandOnBothSides : Obligations.BindingsStandOnBothSides := by
  intro s t hs h
  rcases step_kept h with rfl | ⟨rest, hk⟩
  · exact hs
  · exact hk.bindings ⟨hs.desks, hs.accounts, hs.agree⟩

/-- Settles O10: an append writes the place behind the held range, which the reservations keep free, and a release clears
places that are not held after it. -/
theorem heldJournalEntriesAreNotChanged : Obligations.HeldJournalEntriesAreNotChanged :=
  fun c s t h1 h2 hr hon he k hs ht => exec_entries c s h1 h2 hr hon t he k hs ht

end Sys2Proof.Proofs
end

section
/-! Where the reservations of a part are not kept: a halted part that a sale still waits on (O9). -/

namespace Sys2Proof.Machine

/-- Clock 0 holds a sale of which the quantity has been given. -/
def givenClock : Clock :=
  { Clock.reset with
    state := .held, lot := some 0
    winner := some { desk := 1, buyer := some 0, position := 0, price := 1, hold := 0, given := some .takeAll } }

/-- One stem on clock 0. -/
def oneStem : LotRec :=
  { state := .onClock, catalogue := 0, total := 1, remaining := 1, unit := 1, minTake := 1, reserve := 1
    startPrice := none, reofferLimit := 0, runouts := 0, purchases := [], train := none, clock := some 0, lastSeq := none }

def fullValues : ValuesCopy :=
  { values := { used := 8192, reserved := 0, newest := some 8192, oldestPlace := 0 }, found := none }

/-- A halted part with a full journal, whose last broadcast is still on the line while a sale waits for its place. The
frames of a part that is off are not looked at by `ReservationsHold`, and BROADCAST_SENT does not ask for the supply. -/
def haltedSale : State :=
  { State.reset with
    lots := [(0, { lot := some oneStem, found := none })]
    journal := { copy1 := fullValues, copy2 := fullValues, places := [] }
    clocks := [(0, givenClock)]
    line := { Line.reset with
      waits := [{ who := .clock 0, kind := .sale }]
      sending := some { frame := .halt 0 0 .stop 0 0, wire := (OutFrame.halt 0 0 .stop 0 0).wire, orphan := false } }
    power := { monitor := .off, level := .belowFail, resetActive := false }
    pending := [.broadcastSent] }

theorem haltedSale_reservationsHold : haltedSale.ReservationsHold :=
  ⟨rfl, le_refl _, le_refl _, by decide, nofun, nofun, nofun⟩

/-- The state after BROADCAST_SENT on the halted part. -/
def haltedSaleSent : State := ({ haltedSale with pending := [] } : State).leaveHead

theorem haltedSale_step : step haltedSale = .next haltedSaleSent := rfl

theorem haltedSaleSent_used : haltedSaleSent.journal.copy1.values.used = 8193 := by decide

end Sys2Proof.Machine

namespace Sys2Proof.Proofs

open Machine

/-- Refutes O9: BROADCAST_SENT on a halted part grants the freed place to a waiting sale, whose commit appends to a full
journal. The premise says nothing of the clocks of a part that is off. -/
theorem not_journalReservationsMatchTheClocks : ¬ Obligations.JournalReservationsMatchTheClocks := by
  intro h
  have hused := (h haltedSale haltedSaleSent (fun _ _ he => by cases he) haltedSale_reservationsHold haltedSale_step).copy1
  rw [haltedSaleSent_used] at hused
  omega

end Sys2Proof.Proofs
end

section
/-! Ports and commands: what a command of a port is when the port is ready, of another role, off, or holds an open
transfer; the exchange. -/

namespace Sys2Proof.Machine

set_option Elab.async false

variable {s : State} {c : Instr} {p : Port} {t : Nat}

/-! ## A command given by a frame (R181, R182, R186) -/

/-- DATA, which alone is not taken as its block (R185). -/
def Instr.isData : Instr → Bool
  | .data _ _ _ => true
  | _ => false

theorem ne_data_of_isData (h : Instr.isData c = false) : ∀ q n u, c ≠ .data q n u := fun q n u he => by
  subst he
  cases h

/-- On a port with no open transfer a command of its role is its block's answer and the reply. -/
theorem exec_ready (h : s.Ready p) (hc : c.given = some (p, t)) (hd : Instr.isData c = false)
    (hr : roleAllows c.role p = true) : exec c s = .next ((Instr.block c s).reply p t) :=
  (exec_given hc (ne_data_of_isData hd) s).trans (congrArg _ (s.command_ready h hr t _))

/-- A command that its block refuses changes the reply slot alone. -/
theorem exec_refuse (h : s.Ready p) (hc : c.given = some (p, t)) (hd : Instr.isData c = false)
    (hr : roleAllows c.role p = true) {code : ReplyCode} (hb : Instr.block c s = .refuse s code) :
    exec c s = .next (s.putReply p t code []) := by
  rw [exec_ready h hc hd hr, hb]
  rfl

/-- A command that its block answers with `fs` and the part `u`. -/
theorem exec_ok (h : s.Ready p) (hc : c.given = some (p, t)) (hd : Instr.isData c = false)
    (hr : roleAllows c.role p = true) {u : State} {fs : List Byte} (hb : Instr.block c s = .ok u fs) :
    exec c s = .next (u.putReply p t .ok fs) := by
  rw [exec_ready h hc hd hr, hb]
  rfl

theorem exec_other_role {r : Port} (h : s.Ready p) (hc : c.given = some (p, t)) (hr : c.role = some r) (hne : r ≠ p) :
    exec c s = .next (s.putReply p t .notPermitted []) := by
  have hd : ∀ q n u, c ≠ .data q n u := fun q n u he => by subst he; cases hr
  rw [exec_given hc hd, s.command_refused h (by simpa [hr, roleAllows] using hne)]

/-- A part that is halted or starting takes no command of a port (R160, R192). -/
theorem exec_given_off (hoff : s.isOn = false) (hc : c.given = some (p, t)) : exec c s = .next s := by
  by_cases hd : ∃ q n u, c = .data q n u
  · obtain ⟨q, n, u, rfl⟩ := hd
    change Host.Outcome.next _ = _
    rw [if_neg (by simp [hoff])]
  · rw [exec_given hc fun q n u he => hd ⟨q, n, u, he⟩, s.command_off p _ hoff]

/-- The abort of a transfer leaves its port with none. -/
theorem State.abortTransfer_ready (p : Port) (hon : s.isOn = true) : (s.abortTransfer p).Ready p := by
  cases hx : (s.port p).xfer with
  | none => rw [s.abortTransfer_idle p hx]; exact ⟨hon, hx⟩
  | some f =>
    refine ⟨(keeps_abortTransfer s p).on.trans hon, ?_⟩
    simp only [State.abortTransfer, hx]
    obtain ⟨x, hr, hports⟩ := (s.setPort p { s.port p with
      xfer := none, busy := false, last := some { complete := false, kind := f.kind, done := f.done } }).raise_ports
        .sup .commandAborted (.aborted p f.done)
    obtain ⟨g, hg⟩ := hports p
    rw [hr, hg, State.setPort_same]

/-- A command other than DATA is taken on the part whose open transfer has been aborted (R186). -/
theorem exec_abortTransfer (hon : s.isOn = true) (hc : c.given = some (p, t)) (hd : ∀ q n u, c ≠ .data q n u) :
    exec c s = exec c (s.abortTransfer p) := by
  have h := s.abortTransfer_ready p hon
  rw [exec_given hc hd, exec_given hc hd]
  simp [State.command, hon, h.on, (s.abortTransfer p).abortTransfer_idle p h.idle]

/-! ## What a part that is off takes (R160, R192) -/

theorem State.turn_off (h : s.isOn = false) : s.turn = none := by simp [State.turn, h]

theorem State.timeUp_off (h : s.isOn = false) (k : Nat) (q : ClockState) : s.timeUp k q = false := by
  simp [State.timeUp, h]

theorem State.filterDone_off (h : s.isOn = false) (g : Nat) : s.filterDone g = none := by
  unfold State.filterDone
  split
  · simp [h]
  · rfl

/-! ## One exchange (R181) -/

/-- The output that a port drives, with its mailbox emptied. -/
theorem State.exchange_ports (s : State) (p : Port) (given : List Byte) :
    (((s.drive p (s.returnedBytes p)).setMailbox p given).setMailbox p []) =
      s.setPort p { s.port p with mailbox := [], returned := s.returnedBytes p } := by
  simp [State.drive, State.setMailbox]

theorem State.exchange_mailbox (s : State) (p : Port) (given : List Byte) :
    (((s.drive p (s.returnedBytes p)).setMailbox p given).port p).mailbox = given := by
  simp [State.setMailbox]

theorem execPortExchange_on (hon : s.isOn = true) (p : Port) (b : List Byte) :
    exec (.portExchange p b) s = s.exchange p b := by
  change execPortExchange p b s = _
  unfold execPortExchange
  cases hm : s.power.monitor <;> first | rfl | simp [State.isOn, hm] at hon

/-- An exchange of a part that takes frames: a frame that spells a command is that command on the part that has driven its
output. -/
theorem State.exchange_eq (s : State) (p : Port) (b : List Byte) :
    let u := s.setPort p { s.port p with mailbox := [], returned := s.returnedBytes p }
    s.exchange p b =
      if b = [] then .next u
      else
        match decodeFrame p ((s.port p).xfer.map (·.kind.unitLength)) b with
        | .discarded => .next u
        | .command i => takeFrame i u := by
  unfold State.exchange
  simp only [State.exchange_ports, State.exchange_mailbox, State.wantedLength, State.setPort_same]
  cases b with
  | nil => rfl
  | cons x b => rw [if_neg (List.cons_ne_nil x b)] <;> rfl

end Sys2Proof.Machine
end

section
/-! The commands that frames spell, and the numbers that a command's block refuses. -/

namespace Sys2Proof.Machine

set_option Elab.async false

variable {s : State} {c : Instr} {p : Port} {t : Nat}

/-! ## Reading frames (R181, R196, R197) -/

theorem takenIf_command {ok : Bool} {i j : Instr} (h : takenIf ok i = .command j) : j = i := by
  unfold takenIf at h
  split at h <;> cases h
  rfl

theorem readData_command {want : Option Nat} {fs : List Byte} (h : readData p t want fs = .command c) :
    ∃ u, c = .data p t u := by
  unfold readData at h
  dsimp only at h
  split at h
  · split at h
    · exact ⟨_, (FrameRead.command.inj h).symm⟩
    · split at h <;> exact ⟨_, (FrameRead.command.inj h).symm⟩
  · cases h

/-- Every command that a frame spells is one that is given by a frame. -/
theorem readCommand_given {want : Option Nat} {code : Nat} {fs : List Byte}
    (h : readCommand p want code t fs = .command c) : c.given = some (p, t) := by
  unfold readCommand at h
  dsimp only at h
  split at h
  case h_43 =>
    obtain ⟨u, rfl⟩ := readData_command h
    rfl
  case h_44 => cases h; rfl
  all_goals
    obtain rfl := takenIf_command h
    rfl

theorem decodeFrame_given {want : Option Nat} {b : List Byte} (h : decodeFrame p want b = .command c) :
    ∃ t, c.given = some (p, t) := by
  unfold decodeFrame at h
  split at h
  · split at h
    · exact ⟨_, readCommand_given h⟩
    · cases h
  · cases h

theorem takeFrame_of_given (hc : c.given = some (p, t)) (s : State) : takeFrame c s = exec c s := by
  cases c <;> cases hc <;> rfl

/-- A code outside the list of R196 is taken as UNKNOWN_COMMAND. -/
theorem readCommand_undefined {code : Nat} (h : code < 0x10 ∨ 0x1A < code ∧ code < 0x20 ∨ 0x2A < code ∧ code < 0x30 ∨
    0x35 < code ∧ code < 0x40 ∨ 0x44 < code ∧ code < 0x50 ∨ 0x58 < code ∧ code < 0x5F ∨ 0x5F < code)
    (p : Port) (t : Nat) (want : Option Nat) (fs : List Byte) :
    readCommand p want code t fs = .command (.unknownCommand p t) := by
  unfold readCommand
  dsimp only
  split
  case h_44 => rfl
  all_goals omega

/-! ## Numbers outside their table (00 section 6) -/

theorem clockGuard_of_le {k : Nat} (h : 6 ≤ k) (a : Answer) : clockGuard s k a = .refuse s .noRecord :=
  if_neg (Nat.not_lt.2 h)

theorem buyerGuard_of_le {b : Nat} (h : 1024 ≤ b) (a : Answer) : buyerGuard s b a = .refuse s .noRecord := if_pos h

theorem any_of_exists {l : List Nat} {n : Nat} (h : ∃ g ∈ l, n ≤ g) : l.any (n ≤ ·) = true := by
  simpa using h

theorem deskExists_eq_false {d : Nat} (h : d = 0 ∨ 512 ≤ d) : deskExists d = false := by
  rcases h with rfl | h
  · rfl
  · simp [deskExists, Config.desks, Nat.not_le.2 h]

theorem deskExists_eq_true {d : Nat} (h1 : 1 ≤ d) (h2 : d ≤ 511) : deskExists d = true := by
  simp [deskExists, Config.desks, h1, h2]

theorem writeLot_of_le {r : LotFields} (h : 4096 ≤ r.slot) :
    s.writeLot r = { code := .noRecord, fields := u2 r.slot, state := s } := if_pos h

theorem writeSegment_of_le {r : SegFields} (hu : s.underWay = false) (h : 128 ≤ r.segment ∨ ∃ g ∈ r.succ, 128 ≤ g) :
    s.writeSegment r = refuseSegment s r.segment .noRecord := by
  have hn : Config.segments ≤ r.segment ∨ r.succ.any (Config.segments ≤ ·) = true := h.imp_right any_of_exists
  unfold State.writeSegment
  dsimp only
  rw [if_neg (by simp [hu]), if_pos hn]

/-- DATA on a transfer whose unit the frame carries is the unit's answer and the reply (R185). -/
theorem exec_data {u : DataUnit} {a : Answer} (hon : s.isOn = true) (h : s.dataBlock p u = some a) :
    exec (.data p t u) s = .next (a.reply p t) := by
  change Host.Outcome.next _ = _
  rw [if_pos hon, h]

theorem portStatusBlock_of_le {n : Nat} (h : 4 ≤ n) : s.portStatusBlock n = .refuse s .noRecord := by
  have hn : portOfCode n = none := by
    unfold portOfCode
    split
    case h_5 => rfl
    all_goals omega
  unfold State.portStatusBlock
  rw [hn]

/-- A transfer of `n` units opens with fewer done (R185). -/
theorem State.openTransfer_eq (p : Port) (kind : XferKind) {n d : Nat} (h : n ≠ d) :
    s.openTransfer p kind (some n) d =
      s.setPort p
        { s.port p with xfer := some { kind := kind, expected := some n, done := d, next := 0 }, busy := true } :=
  if_neg fun he => h (Option.some.inj he)

/-- LOT_WRITE opens its transfer for 2 records or more, the first of them done (R184, R185). -/
theorem State.lotWriteBlock_state (count : Nat) (r : LotFields) :
    let n := max 1 (min 4096 count)
    let u := (s.writeLot r).state
    (s.lotWriteBlock p count r).state =
      if 2 ≤ n then
        u.setPort p
          { u.port p with xfer := some { kind := .lotWrite, expected := some n, done := 1, next := 0 }, busy := true }
      else u := by
  intro n u
  change (if 2 ≤ n then u.openTransfer p .lotWrite (some n) 1 else u) = _
  split
  · exact u.openTransfer_eq p .lotWrite (by omega)
  · rfl

theorem exec_lotWrite (h : s.Ready .sup) (count : Nat) (r : LotFields) :
    let n := max 1 (min 4096 count)
    let u := (s.writeLot r).state
    exec (.lotWrite .sup t count r) s =
      .next ((if 2 ≤ n then
        u.setPort .sup
          { u.port .sup with xfer := some { kind := .lotWrite, expected := some n, done := 1, next := 0 }, busy := true }
      else u).putReply .sup t (s.writeLot r).code
        (if (s.writeLot r).code = .ok then u2 n ++ (s.writeLot r).fields else (s.writeLot r).fields)) := by
  intro n u
  rw [exec_ready h rfl rfl rfl, ← s.lotWriteBlock_state count r]
  rfl

theorem exec_lotWrite_of_le (h : s.Ready .sup) (count : Nat) {r : LotFields} (hr : 4096 ≤ r.slot) :
    let units := max 1 (min 4096 count)
    exec (.lotWrite .sup t count r) s =
      .next ((if 2 ≤ units then
          s.setPort .sup
            { s.port .sup with
              xfer := some { kind := .lotWrite, expected := some units, done := 1, next := 0 }, busy := true }
        else s).putReply .sup t .noRecord (u2 r.slot)) := by
  intro units
  rw [exec_lotWrite h count r, writeLot_of_le hr]
  rfl

theorem State.dataBlock_lot {f : Xfer} (hx : (s.port p).xfer = some f) (hk : f.kind = .lotWrite) (r : LotFields) :
    s.dataBlock p (.lot r) = some ((s.writeLot r).unitDone p f) := by
  unfold State.dataBlock
  rw [hx]
  dsimp only
  rw [hk]

theorem State.dataBlock_segment {f : Xfer} (hx : (s.port p).xfer = some f) (hk : f.kind = .layoutWrite)
    (r : SegFields) : s.dataBlock p (.segment r) = some ((s.writeSegment r).unitDone p f) := by
  unfold State.dataBlock
  rw [hx]
  dsimp only
  rw [hk]

end Sys2Proof.Machine
end

section
/-! Settled: the step, the reset, and the statements about ports, frames and roles. -/

namespace Sys2Proof.Proofs

set_option Elab.async false

open Machine

/-- Settles O1: the front command of a queue that is not empty. -/
theorem stepTakesTheFrontCommand : Obligations.StepTakesTheFrontCommand := fun _ _ _ => rfl

theorem reset_invariants : State.reset.QueuesFit ∧ State.reset.RepliesAhead ∧ State.reset.TablesWf ∧
    State.reset.LotsAddUp ∧ State.reset.OverHolds ∧ State.reset.BindingsAgree ∧ State.reset.ReservationsHold := by
  have hunbound : ∀ d b, (State.reset.desk d).buyer = some b ↔ (State.reset.acct b).desk = some d :=
    fun d b => by simp [State.reset, State.desk, State.acct, Tab.get, Desk.reset, AcctCell.vacant, Account.vacant]
  refine ⟨?_, (State.repliesAhead_iff _).2 RepliesFirst.nil, ?_, ⟨rfl, fun _ h => by cases h⟩, ?_,
    ⟨rfl, rfl, fun _ => hunbound⟩, ?_⟩
  · exact ⟨Nat.zero_le _, Nat.zero_le _, Nat.zero_le _, fun _ h => (List.not_mem_nil h).elim,
      fun _ h => (List.not_mem_nil h).elim⟩
  · exact ⟨rfl, rfl, rfl, rfl, rfl, rfl, rfl, rfl, rfl, rfl, rfl, fun p => by cases p <;> rfl⟩
  · intro _ _ h
    cases h
  · exact ⟨rfl, Nat.zero_le _, Nat.zero_le _, rfl, fun _ => rfl, fun _ => Nat.zero_le _, fun _ _ h => by cases h⟩

/-- Settles O3: the power-up sequence of an empty store is evaluated, and reset lists no record. -/
theorem resetIsAPowerUpAndMeetsTheInvariants : Obligations.ResetIsAPowerUpAndMeetsTheInvariants :=
  ⟨rfl, reset_invariants⟩

/-- Settles O11: the role is judged after the abort, of which a ready port has none. -/
theorem commandsOfAnotherRoleAreRefused : Obligations.CommandsOfAnotherRoleAreRefused :=
  fun _ _ _ _ _ hc hr hne h => exec_other_role h hc hr hne

/-- Settles O12: each of these commands asks first whether the part is on. -/
theorem partThatIsNotOnTakesNothing : Obligations.PartThatIsNotOnTakesNothing := by
  intro c s hoff hc
  have hite : ∀ {q : Prop} [Decidable q] (u : State), (q → s.isOn = true) →
      (Host.Outcome.next (if q then u else s) : Host.Outcome State Fault Refusal) = .next s := fun u hq => by
    rw [if_neg fun h => by simp [hoff] at hq; exact hq h]
  have hturn := s.turn_off hoff
  have htime := s.timeUp_off hoff
  rcases hc with hgiven | hevent | ⟨n, hevent⟩ | ⟨f, rfl⟩
  · obtain ⟨⟨p, t⟩, hg⟩ := Option.isSome_iff_exists.1 hgiven
    exact exec_given_off hoff hg
  · simp only [List.mem_cons, List.not_mem_nil, or_false] at hevent
    rcases hevent with rfl | rfl | rfl | rfl | rfl | rfl | rfl | rfl | rfl
    · exact hite _ id
    · simp only [exec, execStop, hturn]
    · simp only [exec, execQuantity, hturn]
    · simp only [exec, execSignIn, hturn]
    · simp only [exec, execSignOut, hturn]
    · simp only [exec, execStatusAsk, hturn]
    · simp only [exec, execMalformedFrameDiscard, hturn]
    · exact hite _ And.left
    · exact hite _ id
  · simp only [List.mem_cons, List.not_mem_nil, or_false] at hevent
    rcases hevent with rfl | rfl | rfl | rfl | rfl | rfl | rfl | rfl
    · exact hite _ id
    · exact hite _ fun h => by simp [htime] at h
    · exact hite _ fun h => by simp [htime] at h
    · exact hite _ fun h => by simp [htime] at h
    · exact hite _ fun h => by simp [htime] at h
    · exact hite _ And.left
    · exact hite _ And.left
    · simp only [exec, execSenseFilterExpiry, s.filterDone_off hoff]
  · exact hite _ id

/-- Settles O13: the abort of the transfer comes before the role and the block of every command but DATA. -/
theorem openTransferIsAbortedBeforeTheCommand : Obligations.OpenTransferIsAbortedBeforeTheCommand := by
  intro c s p t x hc hd hon hx
  have ha : s.abortTransfer p =
      (s.setPort p { s.port p with
        xfer := none, busy := false, last := some { complete := false, kind := x.kind, done := x.done } }).raise
      .sup .commandAborted (.aborted p x.done) := by
    simp only [State.abortTransfer, hx]
  intro a
  have : a = s.abortTransfer p := ha.symm
  rw [this]
  exact ⟨exec_abortTransfer hon hc hd, s.abortTransfer_ready p hon⟩

/-- Settles O14: each block judges the number first, and DATA counts the unit of a refused record. -/
theorem numbersOutsideTheirTableAreRefused : Obligations.NumbersOutsideTheirTableAreRefused := by
  intro s t n
  simp only [List.forall_mem_cons, List.not_mem_nil, false_implies, implies_true, and_true]
  refine ⟨fun h => ⟨fun hn => ⟨?_, ?_⟩, fun r count hr => ?_, fun hn => ?_, fun hn r => ?_, fun hn a b d => ?_, fun hn => ?_⟩,
    fun p f hon hx => ⟨fun r hk hr => ?_, fun r hk hu hr => ?_⟩, fun h hn r b => ?_,
    fun h => ⟨fun hn g l => ?_, fun g l hg => ?_, fun l hl => ?_⟩, fun h hn a => ⟨?_, ?_⟩,
    fun p g h => ⟨fun hn => ?_, fun hn => ?_, fun hn => ?_, fun hn => ?_, fun hn => ?_, fun hn => ?_⟩⟩
  · exact exec_refuse h rfl rfl rfl (if_pos hn)
  · exact exec_refuse h rfl rfl rfl (if_pos hn)
  · exact exec_lotWrite_of_le h count hr
  · exact exec_refuse h rfl rfl rfl (if_pos hn)
  · exact exec_refuse h rfl rfl rfl (if_pos hn)
  · exact exec_refuse h rfl rfl rfl (if_pos hn)
  · exact exec_refuse h rfl rfl rfl (if_pos (deskExists_eq_false hn))
  · exact exec_data hon ((State.dataBlock_lot hx hk r).trans (by rw [writeLot_of_le hr]))
  · exact exec_data hon ((State.dataBlock_segment hx hk r).trans (by rw [writeSegment_of_le hu hr]))
  · have hguard := fun a => clockGuard_of_le (s := s) hn a
    refine ⟨?_, ?_, ?_, ?_, ?_, ?_, ?_, ?_, ?_, ?_, ?_⟩ <;> exact exec_refuse h rfl rfl rfl (hguard _)
  · have hguard := fun a => trainGuard_of_le s hn a
    exact ⟨exec_refuse h rfl rfl rfl (if_pos (.inl hn)), exec_refuse h rfl rfl rfl (hguard _),
      exec_refuse h rfl rfl rfl (if_pos (.inl hn)), exec_refuse h rfl rfl rfl (hguard _),
      exec_refuse h rfl rfl rfl (hguard _), exec_refuse h rfl rfl rfl (hguard _)⟩
  · exact exec_refuse h rfl rfl rfl (if_pos (.inr (hg.imp_right any_of_exists)))
  · exact exec_refuse h rfl rfl rfl (if_pos (.inr (any_of_exists hl)))
  · exact exec_refuse h rfl rfl rfl (buyerGuard_of_le hn _)
  · exact exec_refuse h rfl rfl rfl (buyerGuard_of_le hn _)
  · exact exec_refuse h rfl rfl rfl (if_pos hn)
  · exact exec_refuse h rfl rfl rfl (trainGuard_of_le s hn _)
  · exact exec_refuse h rfl rfl rfl (clockGuard_of_le hn _)
  · exact exec_refuse h rfl rfl rfl (if_pos hn)
  · exact exec_refuse h rfl rfl rfl (if_pos (deskExists_eq_false hn))
  · exact exec_refuse h rfl rfl rfl (portStatusBlock_of_le hn)

/-- Settles O16: the length is judged before the code, and a code outside the list falls through. -/
theorem undefinedCodesAndBrokenFrames : Obligations.UndefinedCodesAndBrokenFrames := by
  refine ⟨fun p want b hb => ?_, fun p want code t n fs hn => if_neg hn, fun p want code t n fs hn hcode => ?_,
    fun s p t h => exec_refuse h rfl rfl rfl rfl⟩
  · match b with
    | [] => rfl
    | [_] => rfl
    | [_, _] => rfl
    | _ :: _ :: _ :: l => simp at hb; omega
  · exact (if_pos hn).trans (readCommand_undefined hcode p t.toNat want fs)

/-- Settles O17: the exchange drives what stands in the slot, and takes the command on the part that has driven it. -/
theorem exchangeReturnsTheReplyAndTakesOneFrame : Obligations.ExchangeReturnsTheReplyAndTakesOneFrame := by
  intro s p b u read
  refine ⟨fun hon hb => ?_, fun hon hb c hread => ?_, fun hm => ?_, fun hm => ?_⟩
  · rw [execPortExchange_on hon, State.exchange_eq]
    split
    · rfl
    · next hne =>
      have hd : read = .discarded := hb.resolve_left hne
      change decodeFrame p ((s.port p).xfer.map (·.kind.unitLength)) b = _ at hd
      rw [hd]
  · obtain ⟨t, hg⟩ := decodeFrame_given hread
    obtain ⟨v, hv, -⟩ := turnsBy_given hg u
    refine ⟨v, ?_, hv⟩
    change decodeFrame p ((s.port p).xfer.map (·.kind.unitLength)) b = _ at hread
    rw [execPortExchange_on hon, State.exchange_eq, if_neg hb, hread]
    exact (takeFrame_of_given hg u).trans hv
  · simp only [exec, execPortExchange, hm]
    rfl
  · simp only [exec, execPortExchange, hm]
    rfl

end Sys2Proof.Proofs
end

section
/-! Frames as bytes: that the fields of a frame read back (R196, R197). -/

namespace Sys2Proof.Machine

set_option Elab.async false

/-! ## Numbers -/

theorem bytesNat_append (a : List Byte) (b : Byte) : bytesNat (a ++ [b]) = bytesNat a * 256 + b.toNat := by
  simp [bytesNat]

/-- A number that fits its bytes reads back. -/
theorem bytesNat_natBytes {k n : Nat} (h : n < 256 ^ k) : bytesNat (natBytes k n) = n := by
  induction k generalizing n with
  | zero =>
    obtain rfl : n = 0 := by simpa using h
    rfl
  | succ k ih =>
    have hq : n / 256 < 256 ^ k := Nat.div_lt_of_lt_mul (by rwa [Nat.mul_comm, ← Nat.pow_succ])
    rw [natBytes, bytesNat_append, ih hq]
    simp only [BitVec.toNat_ofNat]
    omega

theorem bytesNat_u1 {n : Nat} (h : fits1 n = true) : bytesNat (u1 n) = n := bytesNat_natBytes (by simpa [fits1] using h)
theorem bytesNat_u2 {n : Nat} (h : fits2 n = true) : bytesNat (u2 n) = n := bytesNat_natBytes (by simpa [fits2] using h)
theorem bytesNat_u3 {n : Nat} (h : fits3 n = true) : bytesNat (u3 n) = n := bytesNat_natBytes (by simpa [fits3] using h)
theorem bytesNat_u4 {n : Nat} (h : fits4 n = true) : bytesNat (u4 n) = n := bytesNat_natBytes (by simpa [fits4] using h)
theorem bytesNat_u6 {n : Nat} (h : fits6 n = true) : bytesNat (u6 n) = n := bytesNat_natBytes (by simpa [fits6] using h)

theorem bytesInt_s6 {x : Int} (h : fitsS6 x = true) : bytesInt (s6 x) = x := by
  simp only [fitsS6, Bool.and_eq_true, decide_eq_true_eq] at h
  have hlt : (BitVec.ofInt 48 x).toNat < 256 ^ 6 := by
    have := (BitVec.ofInt 48 x).isLt
    norm_num at this ⊢
    exact this
  calc bytesInt (s6 x) = (BitVec.ofNat 48 (BitVec.ofInt 48 x).toNat).toInt :=
        congrArg (fun n => (BitVec.ofNat 48 n).toInt) (bytesNat_natBytes hlt)
    _ = (BitVec.ofInt 48 x).toInt := by rw [BitVec.ofNat_toNat, BitVec.setWidth_eq]
    _ = x.bmod (2 ^ 48) := BitVec.toInt_ofInt x
    _ = x := Int.bmod_eq_of_le (by norm_num; omega) (by norm_num; omega)

theorem onByte_ne_zero (b : Bool) : (!decide (bytesNat (onByte b) = 0)) = b := by cases b <;> rfl

theorem readOpt0_opt0 {x : Option Nat} (h : (match x with | none => true | some x => 0 < x && fits3 x) = true) :
    readOpt0 (bytesNat (opt0 3 x)) = x := by
  cases x with
  | none => exact congrArg readOpt0 (bytesNat_natBytes (k := 3) (n := 0) (by norm_num))
  | some n =>
    simp only [Bool.and_eq_true, decide_eq_true_eq] at h
    exact (congrArg readOpt0 (bytesNat_u3 h.2)).trans (if_neg (Nat.ne_of_gt h.1))

/-! ## Fields -/

/-- A field behind the first bytes of a list. -/
theorem field_append_right {a b : List Byte} {i k : Nat} (h : a.length ≤ i) :
    field (a ++ b) i k = field b (i - a.length) k := by
  simp [field, List.drop_append, List.drop_eq_nil_of_le h]

/-- A field that the first bytes of a list hold. -/
theorem field_append_left {a b : List Byte} {k : Nat} (h : a.length = k) : field (a ++ b) 0 k = bytesNat a := by
  simp [field, ← h]

theorem field_all {a : List Byte} {k : Nat} (h : a.length = k) : field a 0 k = bytesNat a := by
  simp [field, ← h]

/-- The rules by which a frame's fields are read, one after another. -/
theorem take_of_length {a : List Byte} {k : Nat} (h : a.length = k) : a.take k = a := by simp [← h]

theorem drop_append_of_le {a b : List Byte} {k : Nat} (h : a.length ≤ k) :
    (a ++ b).drop k = b.drop (k - a.length) := by
  simp [List.drop_append, List.drop_eq_nil_of_le h]

open Laws in
theorem readLot_bytes (r : LotFields) (h : r.wellFormed = true) : readLot r.bytes = r := by
  simp only [LotFields.wellFormed, Bool.and_eq_true] at h
  obtain ⟨⟨⟨⟨⟨⟨⟨hslot, hcat⟩, htotal⟩, hunit⟩, hmin⟩, hreserve⟩, hstart⟩, hlimit⟩ := h
  simp [readLot, LotFields.bytes, field_append_right, field_append_left, field_all, bytesNat_u1, bytesNat_u2, bytesNat_u3,
    bytesNat_u4, hslot, hcat, htotal, hunit, hmin, hreserve, hlimit, readOpt0_opt0 hstart]

open Laws in
theorem readSettings_bytes (r : Settings) (h : r.wellFormed = true) : readSettings r.bytes = r := by
  simp only [Settings.wellFormed, Bool.and_eq_true] at h
  obtain ⟨⟨⟨⟨⟨⟨⟨⟨⟨⟨⟨⟨h1, h2⟩, h3⟩, h4⟩, h5⟩, h6⟩, h7⟩, h8⟩, h9⟩, h10⟩, h11⟩, h12⟩, h13⟩ := h
  simp [readSettings, Settings.bytes, field_append_right, field_append_left, field_all, bytesNat_u1, bytesNat_u2,
    bytesNat_u3, h1, h2, h3, h4, h5, h6, h7, h8, h9, h10, h11, h12, h13, onByte_ne_zero]

open Laws in
/-- The three successor places of a segment record, the unused ones passed over. -/
theorem readSucc_bytes (l : List Nat) (hl : l.length ≤ 3) (hs : ∀ g ∈ l, g < 65535) (rest : List Byte) :
    [field (succBytes l ++ rest) 0 2, field (succBytes l ++ rest) 2 2, field (succBytes l ++ rest) 4 2].filter
      (· ≠ 65535) = l := by
  have h2 : ∀ g, g ≤ 65535 → bytesNat (u2 g) = g := fun g hg => bytesNat_u2 (by simpa [fits2] using by omega)
  match l with
  | [] => simp [succBytes, field_append_right, field_append_left, h2]
  | [a] =>
    simp only [List.mem_cons, List.not_mem_nil, or_false, forall_eq] at hs
    simp [succBytes, field_append_right, field_append_left, h2, Nat.le_of_lt hs, Nat.ne_of_lt hs]
  | [a, b] =>
    simp only [List.mem_cons, List.not_mem_nil, or_false, forall_eq_or_imp, forall_eq] at hs
    simp [succBytes, field_append_right, field_append_left, h2, Nat.le_of_lt hs.1, Nat.ne_of_lt hs.1,
      Nat.le_of_lt hs.2, Nat.ne_of_lt hs.2]
  | [a, b, c] =>
    simp only [List.mem_cons, List.not_mem_nil, or_false, forall_eq_or_imp, forall_eq] at hs
    obtain ⟨ha, hb, hc⟩ := hs
    simp [succBytes, field_append_right, field_append_left, h2, Nat.le_of_lt ha, Nat.ne_of_lt ha,
      Nat.le_of_lt hb, Nat.ne_of_lt hb, Nat.le_of_lt hc, Nat.ne_of_lt hc]
  | _ :: _ :: _ :: _ :: _ => simp at hl; omega

open Laws in
theorem readSegment_bytes (r : SegFields) (h : r.wellFormed = true) : readSegment r.bytes = r := by
  simp only [SegFields.wellFormed, Bool.and_eq_true, decide_eq_true_eq] at h
  obtain ⟨⟨⟨⟨⟨⟨⟨hseg, hkind⟩, hparam⟩, hlen⟩, hsucc⟩, hgroup⟩, hedge⟩, hfilter⟩ := h
  have hs := readSucc_bytes r.succ hlen (by simpa using hsucc) (u1 r.group ++ (u1 r.edge ++ u1 r.filter))
  simp only [ne_eq, decide_not] at hs
  simp [readSegment, SegFields.bytes, field_append_right, field_append_left, field_all, bytesNat_u1, bytesNat_u2, hseg,
    hkind, hparam, hgroup, hedge, hfilter, hs]

open Laws in
theorem readAccount_bytes (r : AccountFields) (h : r.wellFormed = true) : readAccount r.bytes = r := by
  simp only [AccountFields.wellFormed, Bool.and_eq_true] at h
  obtain ⟨⟨⟨⟨⟨hstate, hbadge⟩, hlimit⟩, hfee⟩, hbay⟩, hamounts⟩ := h
  have hb : ∀ n, bytesNat (optF 1 r.bay) = n → (if n = 255 then none else some n) = r.bay := fun n hn => by
    subst hn
    cases hr : r.bay with
    | none => rfl
    | some b =>
      have hlt : b < 255 := by simpa [hr] using hbay
      rw [show optF 1 (some b) = u1 b from rfl, bytesNat_u1 (by simpa [fits1] using by omega), if_neg (by omega)]
  have hb := hb _ rfl
  cases ham : r.amounts with
  | none =>
    cases r
    obtain rfl := ham
    simp [readAccount, AccountFields.bytes, field_append_right, field_append_left, field_all, bytesNat_u1, bytesNat_u3,
      hstate, hbadge, hfee, drop_append_of_le, bytesInt_s6 hlimit, hb]
  | some x =>
    obtain ⟨o, bl⟩ := x
    simp only [ham, Bool.and_eq_true] at hamounts
    cases r
    obtain rfl := ham
    simp [readAccount, AccountFields.bytes, field_append_right, field_append_left, bytesNat_u1, bytesNat_u3,
      hstate, hbadge, hfee, take_of_length, drop_append_of_le, bytesInt_s6 hlimit, hb, bytesInt_s6 hamounts.1,
      bytesInt_s6 hamounts.2]

open Laws in
theorem readNumbers_bytes (l : List Nat) (h : l.all fits2 = true) : readNumbers l.length (l.map u2).flatten = l := by
  induction l with
  | nil => rfl
  | cons a l ih =>
    simp only [List.all_cons, Bool.and_eq_true] at h
    simp [readNumbers, bytesNat_u2 h.1, ih h.2]

open Laws in
/-- The count of a list of numbers behind a frame's first fields. -/
theorem field_count (a : List Byte) (l : List Nat) (h : l.length < 256) :
    field (a ++ listBytes (l.map u2)) a.length 1 = l.length := by
  rw [field_append_right (le_refl _), Nat.sub_self, listBytes, field_append_left (by simp), List.length_map]
  exact bytesNat_u1 (by simpa [fits1] using h)

open Laws in
theorem drop_count (a : List Byte) (l : List Nat) :
    (a ++ listBytes (l.map u2)).drop (a.length + 1) = (l.map u2).flatten := by
  rw [drop_append_of_le (Nat.le_add_right _ 1), Nat.add_sub_cancel_left, listBytes]
  exact drop_append_of_le (le_refl _)

/-! ## Commands -/

theorem frame_read {code t : Nat} {fs : List Byte} (hcode : code < 256) (ht : t < 256) (hfs : fs.length < 256) (p : Port)
    (want : Option Nat) : decodeFrame p want (u1 code ++ u1 t ++ u1 fs.length ++ fs) = readCommand p want code t fs := by
  have hn : ∀ n, n < 256 → (BitVec.ofNat 8 n).toNat = n := fun n h => by simpa using h
  change (if fs.length = (BitVec.ofNat 8 fs.length).toNat then
    readCommand p want (BitVec.ofNat 8 code).toNat (BitVec.ofNat 8 t).toNat fs else .discarded) = _
  rw [hn _ hfs, hn _ hcode, hn _ ht, if_pos rfl]

open Laws in
theorem readData_bytes {u : DataUnit} {code t' : Nat} {fs : List Byte} {want : Option Nat} (p : Port) (t : Nat)
    (hw : u.wellFormed = true) (hf : frameFields (.data p t u) = some (code, t', fs))
    (hd : want = none ∨ want = some fs.length) : readCommand p want code t' fs = .command (.data p t u) := by
  cases u with
  | lot r =>
    cases hf
    have hif : want = none ∧ (r.bytes.length = 0 ∨ r.bytes.length = 13 ∨ r.bytes.length = 18) ∨
        want = some r.bytes.length := hd.imp_left fun h => ⟨h, by simp⟩
    change readData p t' want r.bytes = _
    unfold readData
    dsimp only
    rw [if_pos hif, if_pos (lot_length r), readLot_bytes r hw]
  | segment r =>
    cases hf
    have hif : want = none ∧ (r.bytes.length = 0 ∨ r.bytes.length = 13 ∨ r.bytes.length = 18) ∨
        want = some r.bytes.length := hd.imp_left fun h => ⟨h, by simp⟩
    change readData p t' want r.bytes = _
    unfold readData
    dsimp only
    rw [if_pos hif, if_neg (by simp), if_pos (segment_length r), readSegment_bytes r hw]
  | nothing =>
    cases hf
    change readData p t' want [] = _
    exact if_pos (hd.imp_left fun h => ⟨h, .inl rfl⟩)

open Laws in
/-- The fields of a well-formed command read back (R196). DATA has the length of the unit that it carries. -/
theorem readCommand_frameFields {c : Instr} {p : Port} {t t' code : Nat} {fs : List Byte} {want : Option Nat}
    (hc : c.given = some (p, t)) (hw : c.wellFormed = true) (hf : frameFields c = some (code, t', fs))
    (hd : (∃ u, c = .data p t u) → want = none ∨ want = some fs.length) :
    readCommand p want code t' fs = .command c := by
  cases c with
  | data q n u =>
    cases hc
    simp only [Instr.wellFormed, Bool.and_eq_true] at hw
    exact readData_bytes p t hw.2 hf (hd ⟨u, rfl⟩)
  | lotWrite q n k r =>
    cases hc
    cases hf
    simp only [Instr.wellFormed, Bool.and_eq_true] at hw
    simp [readCommand, takenIf, field_append_left, bytesNat_u2 hw.1.2, readLot_bytes r hw.2]
  | accountWrite q n b r =>
    cases hc
    cases hf
    simp only [Instr.wellFormed, Bool.and_eq_true] at hw
    have hlen : r.bytes.length = 12 ∨ r.bytes.length = 24 := by
      cases h : r.amounts <;> simp [AccountFields.bytes, h]
    have hok : (2 + r.bytes.length == 14 || 2 + r.bytes.length == 26) = true := by
      rcases hlen with h | h <;> simp [h]
    simp [readCommand, takenIf, field_append_left, bytesNat_u2 hw.1.2, readAccount_bytes r hw.2]
    exact Decidable.or_iff_not_imp_left.1 (by simpa using hok)
  | clockSet q n k r =>
    cases hc
    cases hf
    simp only [Instr.wellFormed, Bool.and_eq_true] at hw
    simp [readCommand, takenIf, field_append_left, bytesNat_u1 hw.1.2, readSettings_bytes r hw.2]
  | clockMode q n k b =>
    cases hc
    cases hf
    simp only [Instr.wellFormed, Bool.and_eq_true] at hw
    simp [readCommand, takenIf, field_append_left, field_append_right, field_all, bytesNat_u1 hw.2, onByte_ne_zero]
  | trainForm q n k g l =>
    cases hc
    cases hf
    simp only [Instr.wellFormed, Bool.and_eq_true, decide_eq_true_eq] at hw
    obtain ⟨⟨⟨⟨-, hk⟩, hg⟩, hlen⟩, hl⟩ := hw
    have hcount := field_count (u1 k ++ u2 g) l (by omega)
    have hlist := drop_count (u1 k ++ u2 g) l
    simp only [List.length_append, u1_length, u2_length] at hcount hlist
    change takenIf (4 ≤ (u1 k ++ u2 g ++ listBytes (l.map u2)).length &&
        (u1 k ++ u2 g ++ listBytes (l.map u2)).length == 4 + 2 * field (u1 k ++ u2 g ++ listBytes (l.map u2)) 3 1)
      (.trainForm p _ (field (u1 k ++ u2 g ++ listBytes (l.map u2)) 0 1)
        (field (u1 k ++ u2 g ++ listBytes (l.map u2)) 1 2)
        (readNumbers (field (u1 k ++ u2 g ++ listBytes (l.map u2)) 3 1)
          ((u1 k ++ u2 g ++ listBytes (l.map u2)).drop 4))) = _
    have htrain : field (u1 k ++ u2 g ++ listBytes (l.map u2)) 0 1 = k := by
      simp [field_append_left, bytesNat_u1 hk]
    have hsegment : field (u1 k ++ u2 g ++ listBytes (l.map u2)) 1 2 = g := by
      simp [field_append_left, field_append_right, bytesNat_u2 hg]
    rw [hcount, hlist, readNumbers_bytes l hl, htrain, hsegment]
    simp only [List.length_append, u1_length, u2_length, numbers_length]
    exact if_pos (by simp; omega)
  | trainMove q n k l =>
    cases hc
    cases hf
    simp only [Instr.wellFormed, Bool.and_eq_true, decide_eq_true_eq] at hw
    obtain ⟨⟨⟨-, hk⟩, hlen⟩, hl⟩ := hw
    have hcount := field_count (u1 k) l (by omega)
    have hlist := drop_count (u1 k) l
    simp only [u1_length] at hcount hlist
    change takenIf (2 ≤ (u1 k ++ listBytes (l.map u2)).length &&
        (u1 k ++ listBytes (l.map u2)).length == 2 + 2 * field (u1 k ++ listBytes (l.map u2)) 1 1)
      (.trainMove p _ (field (u1 k ++ listBytes (l.map u2)) 0 1)
        (readNumbers (field (u1 k ++ listBytes (l.map u2)) 1 1) ((u1 k ++ listBytes (l.map u2)).drop 2))) = _
    rw [hcount, hlist, readNumbers_bytes l hl]
    simp only [List.length_append, u1_length, numbers_length, field_append_left, bytesNat_u1 hk]
    exact if_pos (by simp; omega)
  | noticeEnable q n m =>
    cases hc
    cases hf
    have hm : fits1 m.toNat = true := by simpa [fits1] using m.isLt
    simp [readCommand, takenIf, field_all, bytesNat_u1 hm]
  | _ =>
    cases hc <;> cases hf <;>
      · simp only [Instr.wellFormed, Bool.and_eq_true] at hw
        simp [readCommand, takenIf, field_append_right, field_append_left, field_all, bytesNat_u1, bytesNat_u2, bytesNat_u3,
          bytesNat_u4, bytesNat_u6, hw]

open Laws in
/-- The code, the tag and the length of a well-formed command's frame fit their bytes. -/
theorem frame_fits {c : Instr} {code t : Nat} {fs : List Byte} (hw : c.wellFormed = true)
    (hf : frameFields c = some (code, t, fs)) : code < 256 ∧ t < 256 ∧ fs.length < 256 := by
  have key : Framed.Statement c → code < 256 ∧ t < 256 ∧ fs.length < 256 := fun h => by
    obtain ⟨-, -, hcode, hfit⟩ := h.1 _ _ _ hf
    exact ⟨hcode, hfit hw⟩
  cases c with
  | accountWrite q n b r => exact key (Framed.accountWrite q n b r)
  | trainForm q n k g l => exact key (Framed.trainForm q n k g l)
  | trainMove q n k l => exact key (Framed.trainMove q n k l)
  | data q n u => exact key (Framed.data q n u)
  | _ =>
    cases hf <;>
      · simp only [Instr.wellFormed, Bool.and_eq_true, fits1, decide_eq_true_eq] at hw
        simp [hw]

end Sys2Proof.Machine

namespace Sys2Proof.Proofs

open Machine

/-- Settles O15: each field of the frame reads back behind the fields before it. -/
theorem frameOfACommandReadsBackAsTheCommand : Obligations.FrameOfACommandReadsBackAsTheCommand := by
  intro c p t want bytes hc hw he hd
  obtain ⟨⟨code, t', fs⟩, hf, rfl⟩ := Option.map_eq_some_iff.1 he
  obtain ⟨hcode, htag, hlen⟩ := frame_fits hw hf
  rw [frame_read hcode htag hlen]
  refine readCommand_frameFields hc hw hf fun hu => (hd hu).imp_right fun h => ?_
  rw [h, show (u1 code ++ u1 t' ++ u1 fs.length ++ fs).length - 3 = fs.length by simp; omega]

end Sys2Proof.Proofs
end

section
/-! SUP: lots, layout times and faults (R10 to R12, R20, R31, R40). -/

namespace Sys2Proof.Machine

set_option Elab.async false

variable {s : State} {t : Nat}

/-! ## Lots (R7, R10 to R12) -/

theorem writableSlot_iff (x : Option LotRec) :
    writableSlot x = true ↔ x = none ∨ ∃ q, x = some q ∧ q.state = .registered ∧ q.purchases = [] := by
  cases x <;> simp [writableSlot]

theorem State.writeLot_of_writable {r : LotFields} (hr : r.slot < 4096) (h : writableSlot (s.lot r.slot) = true) :
    s.writeLot r = .ok (s.setLot r.slot (some (registeredLot (clampLot r)))) (clampLot r).bytes :=
  (if_neg (Nat.not_le.2 hr)).trans (if_pos h)

theorem State.writeLot_of_not_writable {r : LotFields} (hr : r.slot < 4096) (h : writableSlot (s.lot r.slot) = false) :
    s.writeLot r = { code := .wrongState, fields := u2 r.slot, state := s } :=
  (if_neg (Nat.not_le.2 hr)).trans (if_neg (by simp [h]))

/-- A lot that is closed has its closed state in its slot, whatever its train does (R7, R8). -/
theorem State.closeLot_eq {k : Nat} {r : LotRec} (w : CloseWay) (h : s.lot k = some r) :
    s.closeLot k w = (s.setLot k (some { r with state := closedState w r, clock := none })).reportClosure r.train := by
  simp only [State.closeLot, h]

theorem State.closeLot_lot {k : Nat} {r : LotRec} (w : CloseWay) (h : s.lot k = some r) :
    (s.closeLot k w).lot k = some { r with state := closedState w r, clock := none } := by
  obtain ⟨y, p, q, hf⟩ :=
    (s.setLot k (some { r with state := closedState w r, clock := none })).reportClosure_frame r.train
  calc (s.closeLot k w).lot k = (s.setLot k (some { r with state := closedState w r, clock := none })).lot k := by
        rw [State.closeLot_eq w h, hf]
        rfl
    _ = some { r with state := closedState w r, clock := none } := s.setLot_lot_same k _

theorem State.withdraw_plain {k : Nat} {r : LotRec} (h : r.state = .registered ∨ r.state = .onTrain ∨ r.clock = none) :
    s.withdraw k r = s.closeLot k .withdraw := by
  unfold State.withdraw
  rcases h with h | h | h
  · rw [h]
  · rw [h]
  · rw [h]
    cases r.state <;> rfl

theorem State.withdraw_queued {k c : Nat} {r : LotRec} (h : r.state = .queued ∨ r.state = .announced)
    (hc : r.clock = some c) : s.withdraw k r = ((s.closeLot k .withdraw).leaveQueue c k).settle := by
  unfold State.withdraw
  rcases h with h | h <;> rw [h, hc]

theorem closedState_withdraw (r : LotRec) :
    closedState .withdraw r = if r.purchases = [] then .withdrawn else .partSold := by
  unfold closedState
  cases r.purchases <;> rfl

theorem State.closedReply_withdraw {k : Nat} {r : LotRec} (h : s.lot k = some r) :
    (s.closeLot k .withdraw).closedReply k = [if r.purchases = [] then 9#8 else 7#8] := by
  unfold State.closedReply
  rw [State.closeLot_lot .withdraw h, closedState_withdraw]
  split <;> rfl

theorem State.lotWithdrawBlock_of_none {k : Nat} (hk : k < 4096) (h : s.lot k = none) :
    s.lotWithdrawBlock k = .refuse s .wrongState := by
  refine (if_neg (Nat.not_le.2 hk)).trans ?_
  rw [h]

theorem State.lotWithdrawBlock_of_some {k : Nat} {r : LotRec} (hk : k < 4096) (h : s.lot k = some r) :
    s.lotWithdrawBlock k =
      if r.state.closed ∨ r.state = .onClock then .refuse s .wrongState
      else .ok (s.withdraw k r) [if r.purchases = [] then 9#8 else 7#8] := by
  refine (if_neg (Nat.not_le.2 hk)).trans ?_
  rw [h]
  dsimp only
  rw [State.closedReply_withdraw h]

theorem State.lotReleaseBlock_of_none {k : Nat} (hk : k < 4096) (h : s.lot k = none) :
    s.lotReleaseBlock k = .refuse s .wrongState := by
  refine (if_neg (Nat.not_le.2 hk)).trans ?_
  rw [h]

theorem State.lotReleaseBlock_of_some {k : Nat} {r : LotRec} (hk : k < 4096) (h : s.lot k = some r) :
    s.lotReleaseBlock k =
      if r.state.closed ∧ r.train = none ∧ s.journalled r = false then .ok (s.setLot k none) []
      else .refuse s .wrongState := by
  refine (if_neg (Nat.not_le.2 hk)).trans ?_
  rw [h]

theorem State.journalled_eq_true (r : LotRec) : s.journalled r = true ↔ ∃ q, r.lastSeq = some q ∧ s.values.holds q = true := by
  unfold State.journalled
  cases r.lastSeq <;> simp

/-! ## Segments in FAULT (R40) -/

theorem State.segmentClearBlock_of_fault {g : Nat} {n : Option Nat} (hg : g < 128) (h : (s.seg g).state = .fault n)
    (hv : (s.seg g).vacant = true) :
    s.segmentClearBlock g =
      .ok (s.setSeg g { s.seg g with state := n.elim .free .reserved }).reexamine [] := by
  refine (if_neg (Nat.not_le.2 hg)).trans ?_
  rw [h]
  dsimp only
  rw [if_pos hv]
  cases n <;> rfl

theorem State.segmentClearBlock_of_other {g : Nat} (hg : g < 128)
    (h : (∀ n, (s.seg g).state ≠ .fault n) ∨ (s.seg g).vacant = false) :
    s.segmentClearBlock g = .refuse s .wrongState := by
  refine (if_neg (Nat.not_le.2 hg)).trans ?_
  cases hq : (s.seg g).state with
  | fault n => simp [h.resolve_left fun hn => hn n hq]
  | free | reserved | occupied => rfl

end Sys2Proof.Machine

namespace Sys2Proof.Proofs

open Machine

/-- Settles O18: LOT_WRITE is one record judged as DATA judges it, and its transfer. -/
theorem lotWriteStoresTheClampedLot : Obligations.LotWriteStoresTheClampedLot := by
  intro s t count r hs hr n total v lot opened
  have hv : clampLot r = v := by
    unfold clampLot clamp
    simp only [Nat.zero_max]
    rfl
  refine ⟨fun h => ?_, fun q hq h => ?_⟩
  · rw [exec_lotWrite hs count r, State.writeLot_of_writable hr ((writableSlot_iff _).2 h), hv]
    rfl
  · have hw : writableSlot (s.lot r.slot) = false := by
      rcases h with h | h <;> simp [hq, writableSlot, h]
    rw [exec_lotWrite hs count r, State.writeLot_of_not_writable hr hw]
    rfl

/-- Settles O19: the state of the slot chooses the branch, and the closure leaves the closed lot in it. -/
theorem lotsAreWithdrawnAndReleased : Obligations.LotsAreWithdrawnAndReleased := by
  refine ⟨fun s t k hs hk => ⟨?_, fun r hr hclock hopen => ?_⟩, fun s t k hs hk => ⟨fun r hr hclosed htrain hseq => ?_, ?_⟩⟩
  · rintro (h | ⟨r, hr, h⟩)
    · exact exec_refuse hs rfl rfl rfl (State.lotWithdrawBlock_of_none hk h)
    · exact exec_refuse hs rfl rfl rfl ((State.lotWithdrawBlock_of_some hk hr).trans (if_pos h.symm))
  · intro q u
    have hu : s.closeLot k .withdraw = u := by
      rw [State.closeLot_eq .withdraw hr, closedState_withdraw]
    have hblock := (State.lotWithdrawBlock_of_some hk hr).trans (if_neg (by simp [hopen, hclock]))
    refine ⟨fun h => ?_, fun c h hc => ?_⟩
    · rw [State.withdraw_plain h, hu] at hblock
      exact exec_ok hs rfl rfl rfl hblock
    · rw [State.withdraw_queued h hc, hu] at hblock
      exact exec_ok hs rfl rfl rfl hblock
  · refine exec_ok hs rfl rfl rfl ((State.lotReleaseBlock_of_some hk hr).trans (if_pos ⟨hclosed, htrain, ?_⟩))
    rw [Bool.eq_false_iff]
    intro hj
    obtain ⟨q, hq, hh⟩ := (State.journalled_eq_true r).1 hj
    simp [hseq q hq] at hh
  · rintro (h | ⟨r, hr, h⟩)
    · exact exec_refuse hs rfl rfl rfl (State.lotReleaseBlock_of_none hk h)
    · refine exec_refuse hs rfl rfl rfl ((State.lotReleaseBlock_of_some hk hr).trans (if_neg ?_))
      rintro ⟨h1, h2, h3⟩
      rcases h with h | h | h
      · simp [h] at h1
      · exact h h2
      · simp [(State.journalled_eq_true r).2 h] at h3

/-- Settles O20: the transfer of LAYOUT_WRITE opens with no record done, and a fault ends by its reservation. -/
theorem layoutTimesAndFaultsAreSet : Obligations.LayoutTimesAndFaultsAreSet := by
  refine ⟨fun s t window transit count hs => ?_, fun s t g hs hg =>
    ⟨fun n hn hv => ?_, fun h => exec_refuse hs rfl rfl rfl (State.segmentClearBlock_of_other hg h)⟩⟩
  case refine_2 =>
    have hclear := State.segmentClearBlock_of_fault hg hn hv
    cases n <;> exact exec_ok hs rfl rfl rfl hclear
  intro w x n timed u
  refine ⟨fun h => ?_, fun h => exec_refuse hs rfl rfl rfl (if_pos h)⟩
  have hopen : u.openTransfer .sup .layoutWrite (some n) 0 = _ := u.openTransfer_eq .sup .layoutWrite (by omega)
  have hblock : s.layoutWriteBlock .sup window transit count =
      .ok (u.openTransfer .sup .layoutWrite (some n) 0) (u1 w ++ u1 x ++ u1 n) := by
    unfold State.layoutWriteBlock
    rw [if_neg (by simp [h])]
    rfl
  rw [hopen] at hblock
  exact exec_ok hs rfl rfl rfl hblock

end Sys2Proof.Proofs
end

section
/-! SUP: accounts, fee classes, desks, the floor time and the journal's numbering (R130 to R134, R146, R156, R194); AUC:
settings and mode (R64 to R67). -/

namespace Sys2Proof.Machine

set_option Elab.async false

variable {s : State} {t : Nat}

theorem clockGuard_of_lt {c : Nat} (h : c < 6) (a : Answer) : clockGuard s c a = a := if_pos h

/-! ## Accounts (R130, R133, R134) -/

theorem State.accountWriteBlock_of_lt {b : Nat} (h : b < 1024) (r : AccountFields) :
    s.accountWriteBlock b r =
      match r.state with
      | 0 => s.vacateBlock b
      | 1 => s.keepBlock b .active r
      | 2 => s.keepBlock b .suspended r
      | _ => .refuse s .wrongState :=
  (if_neg (Nat.not_le.2 h)).trans (by rfl)

/-- A change that may set and clear OVER judges it anew against the account's limit (R130). -/
theorem State.book_judged (b : Nat) (a : Account) :
    s.book b a false true true =
      let above := decide (a.limit < a.openAmt + a.billedAmt + a.heldAmt)
      let u := s.setAcct b { a with isOver := if above then true else if a.saturated then a.isOver else false }
      if above then u.raiseOver b else u := by
  unfold State.book exposureExact
  dsimp only
  cases decide (a.limit < a.openAmt + a.billedAmt + a.heldAmt) <;> cases a.saturated <;> rfl

theorem State.raiseOver_acct (b k : Nat) : (s.raiseOver b).acct k = s.acct k := by
  obtain ⟨x, h, -⟩ := s.raise_ports .sup .accountOver (.number b)
  obtain ⟨y, g, -⟩ := (s.raise .sup .accountOver (.number b)).raise_ports .fin .accountOver (.number b)
  unfold State.raiseOver
  rw [g, h]
  rfl

/-- A written account reads back as judged. -/
theorem State.book_judged_acct (b : Nat) (a : Account) :
    (s.book b a false true true).acct b =
      { a with
        isOver := if decide (a.limit < a.openAmt + a.billedAmt + a.heldAmt) then true
          else if a.saturated then a.isOver else false } := by
  rw [State.book_judged]
  dsimp only
  split
  · exact (State.raiseOver_acct b b).trans (s.setAcct_acct_same b _)
  · exact s.setAcct_acct_same b _

theorem State.keepBlock_of_passes {b : Nat} {q : AcctState} {r : AccountFields} (hbadge : r.badge ≠ 0)
    (hunique : s.badgeElsewhere b r.badge = false)
    (hheld : (s.acct b).heldAmt ≤ 0 ∨ (s.acct b).badge = some r.badge ∧ r.amounts = none)
    (hdamaged : (s.acct b).state ≠ .damaged ∨ r.amounts ≠ none) :
    s.keepBlock b q r =
      .ok (s.book b (writtenAccount (s.acct b) q r) false true true)
        (accountFieldBytes ((s.book b (writtenAccount (s.acct b) q r) false true true).acct b)) := by
  have hheld' : ¬(0 < (s.acct b).heldAmt ∧ ((s.acct b).badge ≠ some r.badge ∨ r.amounts.isSome = true)) := by
    rintro ⟨h, h'⟩
    rcases hheld with hle | ⟨hb, ha⟩
    · omega
    · simp [hb, ha] at h'
  have hdamaged' : ¬((s.acct b).state = .damaged ∧ r.amounts = none) := fun h => hdamaged.elim (· h.1) (· h.2)
  unfold State.keepBlock
  dsimp only
  rw [if_neg hbadge, if_neg (by simp [hunique]), if_neg hheld', if_neg hdamaged']

/-! ## The journal's numbering (R156) -/

theorem State.format_lot (h : s.TablesWf) (k : Nat) :
    s.format.lot k = (s.lot k).map fun r => { r with lastSeq := none } :=
  congrArg LotCell.lot (Tab.get_mapAll LotCell.free (fun _ (c : LotCell) => LotCell.format c) s.lots k rfl h.lots)

theorem State.format_acct (h : s.TablesWf) (b : Nat) :
    s.format.acct b = { s.acct b with firstSeq := none, lastSeq := none } :=
  congrArg AcctCell.acct
    (Tab.get_mapAll AcctCell.vacant (fun _ (c : AcctCell) => AcctCell.format c) s.accounts b rfl h.accounts)

/-! ## Settings and mode (R64 to R67) -/

theorem clampSettings_eq (r : Settings) :
    clampSettings r =
      { step := max 1 (min 5000 r.step), interval := max 5 (min 250 r.interval), span := max 10 (min 99 r.span)
        grace := min 5 r.grace, settle := max 10 (min 200 r.settle), hold := max 1000 (min 15000 r.hold)
        restartDelay := max 200 (min 5000 r.restartDelay), restartRaise := min 99 r.restartRaise
        depth := max 1 (min 4 r.depth), lead := min 20000 r.lead, pause := max 200 (min 5000 r.pause)
        autoAdvance := r.autoAdvance, autoStart := r.autoStart
        rehearsalStart := max 1 (min 99999 r.rehearsalStart)
        rehearsalReserve := max 1 (min 99999 r.rehearsalReserve) } := by
  unfold clampSettings clamp
  simp only [Nat.zero_max]

/-- The mode that the flag of an IDLE clock is given, with what it had waiting dropped (R67). -/
theorem State.setMode_eq (c : Nat) (on : Bool) :
    s.setMode c on =
      ((if (s.clock c).waitBegin.isSome then s.setWaits (s.line.waits.filter fun e => e.who ≠ .clock c) else s).setClock c
        { s.clock c with
          rehearsal := on, waitBegin := none, lastSold := if on then none else (s.clock c).lastSold
          responses := if on then (s.clock c).responses else [] }).settle := by
  unfold State.setMode State.dropBegin
  cases h : (s.clock c).waitBegin with
  | none => simp [h]
  | some b =>
    have hmark : ((s.setClock c { s.clock c with waitBegin := none }).leaveWait (.clock c)).clock c =
        { s.clock c with waitBegin := none } := s.setClock_clock_same c _
    simp only [h, hmark]
    exact congrArg State.settle ((s.setWaits (s.line.waits.filter fun e => e.who ≠ .clock c)).setClock_setClock c _ _)

end Sys2Proof.Machine

namespace Sys2Proof.Proofs

open Machine

/-- Settles O21: the checks are those of the block, and OVER is judged as a booking judges it. -/
theorem accountWriteStoresOrRetires : Obligations.AccountWriteStoresOrRetires := by
  refine ⟨fun s t b r q hs hb hq hbadge hunique hheld hdamaged => ?_, fun s t b r hs hb => ⟨?_, ?_, ?_⟩⟩
  · intro a kept w above z u
    have hw : writtenAccount a q r = w := by
      unfold writtenAccount clamp
      simp only [Nat.zero_max]
      rfl
    have hblock : s.accountWriteBlock b r = s.keepBlock b q r := by
      rw [State.accountWriteBlock_of_lt hb]
      rcases hq with ⟨h, rfl⟩ | ⟨h, rfl⟩ <;> rw [h] <;> rfl
    have hkeep := State.keepBlock_of_passes (q := q) hbadge hunique hheld hdamaged
    rw [State.book_judged_acct, State.book_judged] at hkeep
    refine exec_ok hs rfl rfl rfl (hblock.trans (hkeep.trans ?_))
    rw [hw]
    rfl
  · intro h0 hvacant howes u
    refine exec_ok hs rfl rfl rfl ((State.accountWriteBlock_of_lt hb r).trans ?_)
    have hnot : ¬((s.acct b).state ≠ .damaged ∧
        (0 < (s.acct b).heldAmt ∨ (s.acct b).openAmt ≠ 0 ∨ (s.acct b).billedAmt ≠ 0)) := by
      rintro ⟨hd, h⟩
      rcases howes with hd' | ⟨h1, h2, h3⟩
      · exact hd hd'
      · omega
    have hread : (s.retire b).acct b = Account.vacant := State.setAcct_acct_same _ b _
    rw [h0]
    refine (if_neg hvacant).trans ((if_neg hnot).trans ?_)
    change Answer.ok (s.retire b) (accountFieldBytes ((s.retire b).acct b)) = _
    rw [hread]
    rfl
  · intro h0 hvacant
    refine exec_ok hs rfl rfl rfl ((State.accountWriteBlock_of_lt hb r).trans ?_)
    rw [h0]
    exact if_pos hvacant
  · intro h
    refine exec_refuse hs rfl rfl rfl ((State.accountWriteBlock_of_lt hb r).trans ?_)
    rcases h with h | ⟨h0, hvacant, hdamaged, howes⟩
    · obtain ⟨n, hn⟩ := Nat.exists_eq_add_of_le' h
      rw [hn]; rfl
    · rw [h0]
      exact (if_neg hvacant).trans (if_pos ⟨hdamaged, howes⟩)

/-- Settles O22: each is its block's answer; the numbering restarts in every record of the tables. -/
theorem feeClassTimeAndFormatAreStored : Obligations.FeeClassTimeAndFormatAreStored := by
  refine fun s t hs => ⟨fun k a b d hk => ?_, fun v hv => ?_, fun h => ?_, fun h => ?_⟩
  · intro f
    have hf : clampFee a b d = f := by
      unfold clampFee clamp
      simp only [Nat.zero_max]
      rfl
    refine exec_ok hs rfl rfl rfl ((if_neg (Nat.not_le.2 hk)).trans ?_)
    rw [hf]
    rfl
  · have hmod : v % Config.floorTimeSpan = v := Nat.mod_eq_of_lt hv
    refine exec_ok hs rfl rfl rfl ?_
    change Answer.ok { s with floorTime := v % Config.floorTimeSpan } (u4 (v % Config.floorTimeSpan)) = _
    rw [hmod]
  · exact exec_refuse hs rfl rfl rfl (if_pos h)
  · exact ⟨s.format, exec_ok hs rfl rfl rfl (if_neg (not_not.2 h)), rfl, rfl,
      fun hwf => ⟨State.format_lot hwf, State.format_acct hwf⟩, rfl⟩

/-- Settles O23: the branches of the block. -/
theorem deskUnbindUnbindsBothSides : Obligations.DeskUnbindUnbindsBothSides := by
  refine fun s t d hs => ⟨fun h => ?_, fun h1 h2 hw => ?_, fun h1 h2 hw hb => ?_, fun b h1 h2 hw hb => ?_⟩
  · exact exec_refuse hs rfl rfl rfl (if_pos (deskExists_eq_false h))
  all_goals have hd := deskExists_eq_true h1 h2
  · exact exec_refuse hs rfl rfl rfl ((if_neg (by simp [hd])).trans (if_pos hw))
  all_goals refine exec_ok hs rfl rfl rfl ((if_neg (by simp [hd])).trans ((if_neg (by simp [hw])).trans ?_))
  all_goals (rw [hb]; rfl)

/-- Settles O25: the state of the clock chooses the branch, and the values stored are the clamped ones. -/
theorem clockSettingsAndModeAreStored : Obligations.ClockSettingsAndModeAreStored := by
  refine ⟨fun s t c r hs hc => ⟨fun h => ?_, fun h1 h2 => ?_⟩, fun s t c on hs hc =>
    ⟨fun h => ?_, fun h hon => ?_, fun h hon => ?_⟩⟩
  · have hv := clampSettings_eq r
    refine exec_ok hs rfl rfl rfl ((clockGuard_of_lt hc _).trans ?_)
    rw [hv]
    rcases h with h | h <;> rw [h] <;> rfl
  · refine exec_refuse hs rfl rfl rfl ((clockGuard_of_lt hc _).trans ?_)
    cases h : (s.clock c).state <;> first | rfl | contradiction
  · exact exec_refuse hs rfl rfl rfl ((clockGuard_of_lt hc _).trans (if_pos h))
  · exact exec_ok hs rfl rfl rfl ((clockGuard_of_lt hc _).trans ((if_neg (not_not.2 h)).trans (if_pos hon)))
  · have hmode : s.setMode c on = _ := State.setMode_eq c on
    exact exec_ok hs rfl rfl rfl
      ((clockGuard_of_lt hc _).trans ((if_neg (not_not.2 h)).trans ((if_neg hon).trans (congrArg (Answer.ok · []) hmode))))

end Sys2Proof.Proofs
end

section
/-! FIN: invoices, the account walk, payments and the journal (R127, R138 to R142, R154, R155). -/

namespace Sys2Proof.Machine

set_option Elab.async false

variable {s : State} {t : Nat}

theorem billable_iff (a : Account) : Billable a = true ↔ a.state = .active ∨ a.state = .suspended := by
  simp [Billable]

theorem buyerGuard_of_billable {b : Nat} (hb : b < 1024) (h : (s.acct b).state = .active ∨ (s.acct b).state = .suspended)
    (a : Answer) : buyerGuard s b a = a :=
  (if_neg (Nat.not_le.2 hb)).trans (if_pos ((billable_iff _).2 h))

theorem buyerGuard_of_not_billable {b : Nat} (hb : b < 1024)
    (h : (s.acct b).state = .vacant ∨ (s.acct b).state = .damaged) (a : Answer) :
    buyerGuard s b a = .refuse s .wrongState :=
  (if_neg (Nat.not_le.2 hb)).trans (if_neg (by rcases h with h | h <;> simp [Billable, h]))

/-! ## Invoices (R127, R138, R139) -/

/-- A booking that neither sets nor clears OVER, unless the amounts are lost in it (R127, R130). -/
theorem State.book_lost (b : Nat) (a : Account) (lost : Bool) :
    s.book b a lost false false =
      let u := s.setAcct b { a with saturated := a.saturated || lost, isOver := if lost then true else a.isOver }
      if lost then u.raiseOver b else u := by
  cases lost
  · exact (s.book_quiet b a false).trans (by simp)
  · exact (s.book_saturated b a false false).trans (by simp)

theorem State.book_lost_acct (b : Nat) (a : Account) (lost : Bool) :
    (s.book b a lost false false).acct b =
      { a with saturated := a.saturated || lost, isOver := if lost then true else a.isOver } := by
  rw [State.book_lost]
  dsimp only
  split
  · exact (State.raiseOver_acct b b).trans (s.setAcct_acct_same b _)
  · exact s.setAcct_acct_same b _

/-! ## The account walk (R140) -/

theorem walkCloses_iff (a : Account) :
    walkCloses a = true ↔ (a.state = .active ∨ a.state = .suspended) ∧ a.openAmt ≠ 0 := by
  simp [walkCloses, billable_iff]

theorem State.walkStep_eq {f : Xfer} (h : (s.port .fin).xfer = some f) (hk : f.kind = .closeAll) :
    s.walkStep =
      if walkCloses (s.acct f.next) then (s.closeInvoice f.next).walkOn .fin f true else s.walkOn .fin f false := by
  simp only [State.walkStep, h, hk]

/-! ## Payments (R142) -/

theorem State.pay_eq (b cents : Nat) :
    s.pay b cents =
      if cents = 0 then s
      else
        s.setAcct b
          { s.acct b with
            billedAmt := (s.acct b).billedAmt - appliedMils (s.acct b) cents
            isOver :=
              if (s.acct b).limit <
                  (s.acct b).openAmt + ((s.acct b).billedAmt - appliedMils (s.acct b) cents) + (s.acct b).heldAmt ∨
                (s.acct b).saturated = true then (s.acct b).isOver
              else false } := by
  unfold State.pay
  split
  · rfl
  · rw [State.book_quiet]
    congr 2
    by_cases h : (s.acct b).limit <
      (s.acct b).openAmt + ((s.acct b).billedAmt - appliedMils (s.acct b) cents) + (s.acct b).heldAmt <;>
    cases (s.acct b).saturated <;> simp [exposureExact, h]

theorem State.pay_billed (b cents : Nat) :
    ((s.pay b cents).acct b).billedAmt = (s.acct b).billedAmt - appliedMils (s.acct b) cents := by
  rw [State.pay_eq]
  split
  · next h =>
    subst h
    unfold appliedMils
    split <;> omega
  · rw [State.setAcct_acct_same]

/-! ## The journal (R154, R155) -/

theorem releaseValue_of_newest {v : JournalValues} {w : Nat} (h : v.newest = some w) (q : Nat) :
    releaseValue v q = if v.ahead q then w else q := by
  simp [releaseValue, h]

theorem freedBy_of_newest {v : JournalValues} {w : Nat} (h : v.newest = some w) (m : Nat) :
    v.freedBy m = if v.holds m then v.used - seqDist w m else 0 := by
  simp [JournalValues.freedBy, h]

theorem State.journalReleaseBlock_eq {q m k : Nat} (hm : releaseValue s.values q = m) (hk : s.values.freedBy m = k) :
    s.journalReleaseBlock q =
      .ok (s.releaseOldest k) (u2 k ++ u4 m ++ (s.releaseOldest k).values.bytes) := by
  subst hm
  subst hk
  rfl

theorem Tab.get_filter_key_of_not {α : Type} (d : α) (t : Tab α) (p : Nat → Bool) (k : Nat) (hk : p k = false) :
    Tab.get d (t.filter fun c => p c.1) k = d := by
  refine Tab.get_of_forall_ne d _ k fun c hc he => ?_
  have hp := (List.mem_filter.1 hc).2
  rw [he, hk] at hp
  cases hp

/-- Releasing keeps the places from the `n`-th oldest on and clears those before it. -/
theorem State.releaseOldest_place (n i : Nat) (hi : i < 8192) :
    (s.releaseOldest n).place ((s.values.oldestPlace + i) % 8192) =
      if n ≤ i then s.place ((s.values.oldestPlace + i) % 8192) else none := by
  have hback : ((s.values.oldestPlace + i) % 8192 + 8192 - s.values.oldestPlace % 8192) % 8192 = i := by omega
  split
  · next h =>
    exact Tab.get_filter_key none s.journal.places
      (fun j => decide (n ≤ (j + 8192 - s.values.oldestPlace % 8192) % 8192)) _ (decide_eq_true (by rwa [hback]))
  · next h =>
    exact Tab.get_filter_key_of_not none s.journal.places
      (fun j => decide (n ≤ (j + 8192 - s.values.oldestPlace % 8192) % 8192)) _ (decide_eq_false (by rwa [hback]))

end Sys2Proof.Machine

namespace Sys2Proof.Proofs

open Machine

/-- Settles O39: the booking of a close marks the account only when an amount is lost in it. -/
theorem invoiceCloseBillsTheOpenAmount : Obligations.InvoiceCloseBillsTheOpenAmount := by
  intro s t b hs hb a cents lost z u
  refine ⟨fun h => ?_, fun h => exec_refuse hs rfl rfl rfl (buyerGuard_of_not_billable hb h _)⟩
  have hclose : s.closeInvoice b = if lost then u.raiseOver b else u := State.book_lost b _ lost
  have hread : (s.closeInvoice b).acct b = z := State.book_lost_acct b _ lost
  refine exec_ok hs rfl rfl rfl ((buyerGuard_of_billable hb h _).trans ?_)
  unfold State.invoiceReply
  dsimp only
  rw [hread, hclose]
  rfl

/-- Settles O40: the walk closes the next account or passes over it, and its number says whether that was the last. -/
theorem invoiceWalkJudgesEachAccount : Obligations.InvoiceWalkJudgesEachAccount := by
  refine ⟨fun s t hs => exec_ok hs rfl rfl rfl (by rfl), fun s f hon hx hk => ?_⟩
  intro a closes u n hcloses hpasses
  have hwalk : exec .invoiceWalkStep s = .next (u.walkOn .fin { f with done := n } false) := by
    change Host.Outcome.next (if s.isOn then s.walkStep else s) = _
    rw [if_pos hon, State.walkStep_eq hx hk]
    by_cases h : closes
    · obtain ⟨rfl, rfl⟩ := hcloses h
      rw [if_pos ((walkCloses_iff _).2 h)]
      rfl
    · obtain ⟨rfl, rfl⟩ := hpasses h
      rw [if_neg fun hc => h ((walkCloses_iff _).1 hc)]
  refine ⟨fun h => hwalk.trans (congrArg _ (if_pos h)), fun h => hwalk.trans (congrArg _ ((if_neg (Nat.not_lt.2 h)).trans ?_))⟩
  unfold State.completeTransfer
  dsimp only
  rw [hk]
  rfl

/-- Settles O41: a payment applies at most the billed amount, in whole cents. -/
theorem paymentLowersTheBilledAmount : Obligations.PaymentLowersTheBilledAmount := by
  intro s t b given hs hb a cents applied z
  refine ⟨fun h => ?_, fun h => exec_refuse hs rfl rfl rfl (buyerGuard_of_not_billable hb h _)⟩
  have hpay : s.pay b cents = if cents = 0 then s else s.setAcct b z := State.pay_eq b cents
  have hbilled : ((s.pay b cents).acct b).billedAmt = a.billedAmt - applied := State.pay_billed b cents
  refine exec_ok hs rfl rfl rfl ((buyerGuard_of_billable hb h _).trans ?_)
  change Answer.ok (s.pay b cents) (u6 cents ++ s6 (applied / 10) ++ s6 (cents - applied / 10) ++
    s6 ((s.pay b cents).acct b).billedAmt) = _
  rw [hbilled, hpay]

/-- Settles O42: the checks of a read in order; a release clears the oldest places up to its sequence. -/
theorem journalIsReadAndReleased : Obligations.JournalIsReadAndReleased := by
  refine ⟨fun s t q n hs => ⟨fun h => ?_, fun hn h => ?_, fun e hn hused hahead hholds hplace => ?_,
    fun hn hused hahead hholds => ?_⟩, fun s t q w hs hfit hw => ?_⟩
  · exact exec_ok hs rfl rfl rfl (if_pos h)
  · rw [exec_ready hs rfl rfl rfl]
    exact congrArg (fun a => Host.Outcome.next (Answer.reply a .fin t)) ((if_neg hn).trans (if_pos h))
  · have hnot : ¬(s.values.used = 0 ∨ s.values.ahead q = true) := by simp [hused, hahead]
    refine exec_ok hs rfl rfl rfl ((if_neg hn).trans ((if_neg hnot).trans ((if_pos hholds).trans ?_)))
    rw [hplace]
    rfl
  · have hnot : ¬(s.values.used = 0 ∨ s.values.ahead q = true) := by simp [hused, hahead]
    rw [exec_ready hs rfl rfl rfl]
    exact congrArg (fun a => Host.Outcome.next (Answer.reply a .fin t))
      ((if_neg hn).trans ((if_neg hnot).trans (if_neg (by simp [hholds]))))
  · intro v m k
    have hm : releaseValue s.values q = m := releaseValue_of_newest hw q
    have hk : s.values.freedBy m = k := freedBy_of_newest hw m
    have hle : k ≤ v.used := by
      change (if v.holds m then v.used - seqDist w m else 0) ≤ v.used
      split <;> omega
    have hused : v.used ≤ 8192 := hfit
    refine ⟨s.releaseOldest k, exec_ok hs rfl rfl rfl (State.journalReleaseBlock_eq hm hk), rfl,
      fun i hi => ?_, fun i hi hlt => ?_, rfl⟩
    · exact (State.releaseOldest_place k i (by omega)).trans (if_neg (Nat.not_le.2 hi))
    · exact (State.releaseOldest_place k i (by omega)).trans (if_pos hi)

end Sys2Proof.Proofs
end

section
/-! Every port: the reads, notices and DATA (R185 to R190); segment records (R21); desk frames (R168 to R170). -/

namespace Sys2Proof.Machine

set_option Elab.async false

variable {s : State} {t : Nat}

/-! ## Notices (R188 to R190) -/

/-- The notice that is taken is the first class by priority that is pending and enabled. -/
theorem State.nextNotice_eq_some {p : Port} {k : Nat} (h1 : 1 ≤ k) (hk : k ≤ p.classCount)
    (hp : (s.flag p k).pending = true) (he : s.enabled p k = true)
    (hbefore : ∀ j, 1 ≤ j → j < k → (s.flag p j).pending = false ∨ s.enabled p j = false) : s.nextNotice p = some k := by
  obtain ⟨i, rfl⟩ := Nat.exists_eq_add_of_le' h1
  unfold State.nextNotice Port.priorities
  rw [List.find?_map, Option.map_eq_some_iff]
  refine ⟨i, List.find?_range_eq_some.2 ⟨by simp [hp, he], by simpa using hk, fun j hj => ?_⟩, rfl⟩
  rcases hbefore (j + 1) (by omega) (by omega) with h | h <;> simp [h]

theorem State.nextNotice_eq_none {p : Port}
    (h : ∀ k, 1 ≤ k → k ≤ p.classCount → (s.flag p k).pending = false ∨ s.enabled p k = false) :
    s.nextNotice p = none := by
  refine List.find?_eq_none.2 fun k hk => ?_
  obtain ⟨i, hi, rfl⟩ := List.mem_map.1 hk
  rcases h (i + 1) (by omega) (List.mem_range.1 hi) with h | h <;> simp [h]

theorem u1_toNat (v : BitVec 8) : u1 v.toNat = [v] := by simp [u1, natBytes]

/-! ## Segment records (R21) -/

theorem keepFirst_filter (p : Nat → Bool) (l : List Nat) : keepFirst (l.filter p) = (keepFirst l).filter p := by
  induction l with
  | nil => rfl
  | cons a l ih =>
    by_cases h : p a = true
    · simp only [List.filter_cons_of_pos h, keepFirst, ih, List.filter_filter, Bool.and_comm]
    · simp only [List.filter_cons_of_neg h, keepFirst, ih, List.filter_filter]
      refine List.filter_congr fun x _ => ?_
      by_cases hx : x = a
      · simp [hx, h]
      · simp [hx]

theorem eraseDups_eq_keepFirst : ∀ l : List Nat, l.eraseDups = keepFirst l
  | [] => rfl
  | a :: l => by
    have hl : (l.filter fun b => !b == a).length ≤ l.length := List.length_filter_le _ _
    rw [List.eraseDups_cons, eraseDups_eq_keepFirst, keepFirst_filter, keepFirst]
    congr 1
    exact List.filter_congr fun x _ => by by_cases h : x = a <;> simp [h]
termination_by l => l.length

theorem State.presentElsewhere_iff (g : Nat) (q : SegKind) :
    s.presentElsewhere g q = true ↔
      ∃ c, q = SegKind.present c ∧ ∃ x ∈ s.yard.segs, x.1 ≠ g ∧ ∃ m, x.2.layout = some m ∧ m.kind = q := by
  cases q with
  | present c =>
    simp only [State.presentElsewhere, List.any_eq_true, Bool.and_eq_true, bne_iff_ne]
    constructor
    · rintro ⟨x, hx, hg, hm⟩
      cases hl : x.2.layout with
      | none => simp [hl] at hm
      | some m => exact ⟨c, rfl, x, hx, hg, m, hl, by simpa [hl] using hm⟩
    · rintro ⟨-, -, x, hx, hg, m, hl, hm⟩
      exact ⟨x, hx, hg, by simp [hl, hm]⟩
  | _ => simp [State.presentElsewhere]

theorem keepsOccupied_eq_false_iff (x : Segment) (l : SegLayout) :
    keepsOccupied x l = false ↔
      (∃ n, x.state = .occupied n) ∧ ∃ m, x.layout = some m ∧ (m.kind ≠ l.kind ∨ m.rising ≠ l.rising) := by
  unfold keepsOccupied
  cases hq : x.state with
  | occupied n =>
    cases hl : x.layout with
    | none => simp
    | some m =>
      simp only [Bool.and_eq_false_imp, beq_iff_eq, beq_eq_false_iff_ne, ne_eq]
      by_cases hk : m.kind = l.kind <;> simp [hk]
  | free | reserved _ | fault _ => simp

theorem State.writeSegment_of_underWay {r : SegFields} (h : s.underWay = true) :
    s.writeSegment r = { code := .wrongState, fields := u2 r.segment, state := s } := if_pos h

theorem State.writeSegment_of_not_numbered {r : SegFields} (h : s.underWay = false)
    (hn : ¬(r.segment < 128 ∧ ∀ g ∈ r.succ, g < 128)) :
    s.writeSegment r = { code := .noRecord, fields := u2 r.segment, state := s } := by
  refine (if_neg (by simp [h])).trans (if_pos ?_)
  rw [not_and_or, Nat.not_lt] at hn
  refine hn.imp id fun hn => ?_
  push Not at hn
  obtain ⟨g, hg, hle⟩ := hn
  exact List.any_eq_true.2 ⟨g, hg, decide_eq_true hle⟩

/-- A record with its numbers in range, taken while no train is under way, is judged by its codes. -/
theorem State.writeSegment_of_numbered {r : SegFields} (h : s.underWay = false)
    (hn : r.segment < 128 ∧ ∀ g ∈ r.succ, g < 128) :
    s.writeSegment r =
      match SegLayout.ofRecord r with
      | none => refuseSegment s r.segment .wrongState
      | some l =>
        if s.presentElsewhere r.segment l.kind then refuseSegment s r.segment .wrongState
        else if keepsOccupied (s.seg r.segment) l = false then refuseSegment s r.segment .wrongState
        else s.takeSegment r.segment l := by
  refine (if_neg (by simp [h])).trans ((if_neg ?_).trans (by rfl))
  rintro (hle | hle)
  · exact Nat.not_le.2 hn.1 hle
  · obtain ⟨g, hg, hle⟩ := List.any_eq_true.1 hle
    exact Nat.not_le.2 (hn.2 g hg) (of_decide_eq_true hle)

theorem SegLayout.ofRecord_eq_none {r : SegFields} (h : segKind r.kind r.param = none ∨ 4 ≤ r.group ∨ 2 ≤ r.edge) :
    SegLayout.ofRecord r = none := by
  unfold SegLayout.ofRecord
  split
  · rfl
  · next q hq => exact if_neg (by rcases h with h | h | h <;> first | omega | simp [hq] at h)

theorem SegLayout.ofRecord_eq_some {r : SegFields} {q : SegKind} (h : segKind r.kind r.param = some q)
    (hg : r.group < 4) (he : r.edge < 2) :
    SegLayout.ofRecord r =
      some { kind := q, succ := r.succ.eraseDups.filter (· ≠ r.segment), group := r.group, rising := r.edge == 0
             filter := min 255 r.filter } := by
  have hclamp : clamp 0 255 r.filter = min 255 r.filter := Nat.zero_max _
  simp only [SegLayout.ofRecord, h, hg, he, and_self, if_true, cleanSucc, eraseDups_eq_keepFirst, hclamp]

/-- The code and parameter of a record's kind are the record's own, a parameter that means nothing being 0. -/
theorem SegKind.code_segKind {kind param : Nat} {q : SegKind} (h : segKind kind param = some q) :
    SegKind.code q = (kind, if kind = 3 ∨ kind = 4 then param else 0) := by
  unfold segKind at h
  split at h
  case h_4 | h_5 =>
    split at h
    · obtain rfl := Option.some.inj h
      rfl
    · cases h
  case h_7 => cases h
  all_goals
    obtain rfl := Option.some.inj h
    rfl

/-- The reply to a record that is taken gives the record as stored. -/
theorem SegLayout.record_of_segKind {r : SegFields} {q : SegKind} (h : segKind r.kind r.param = some q) (he : r.edge < 2)
    (succ : List Nat) (filter : Nat) :
    SegLayout.record r.segment { kind := q, succ := succ, group := r.group, rising := r.edge == 0, filter := filter } =
      { r with succ := succ, filter := filter, param := if r.kind = 3 ∨ r.kind = 4 then r.param else 0 } := by
  have hedge : (if (r.edge == 0) = true then 0 else 1) = r.edge := by
    rcases (show r.edge = 0 ∨ r.edge = 1 by omega) with h0 | h0 <;> rw [h0] <;> rfl
  simp only [SegLayout.record, SegKind.code_segKind h, hedge]

theorem State.defineSegment_eq (g : Nat) (l : SegLayout) :
    s.defineSegment g l =
      s.setSeg g
        { s.seg g with
          layout := some l, level := if (s.seg g).layout = none then s.sensed g else (s.seg g).level } := by
  unfold State.defineSegment
  dsimp only
  congr 2
  cases (s.seg g).layout <;> simp

theorem State.brokenMoves_eq : s.brokenMoves = s.yard.moves.filter fun n => s.follows (s.route n) = false :=
  List.filter_congr fun n _ => by cases s.follows (s.route n) <;> rfl

/-! ## DATA (R185) -/

theorem State.dataBlock_idle {p : Port} (h : (s.port p).xfer = none) (u : DataUnit) :
    s.dataBlock p u = some (.refuse s .wrongState) := by
  unfold State.dataBlock
  rw [h]

theorem State.dataBlock_report {p : Port} {f : Xfer} {c : Nat} (hx : (s.port p).xfer = some f)
    (hk : f.kind = .report c) : s.dataBlock p .nothing = some ((s.reportUnit c f).unitDone p f) := by
  unfold State.dataBlock
  rw [hx]
  dsimp only
  rw [hk]

theorem State.dataBlock_walk {p : Port} {f : Xfer} (hx : (s.port p).xfer = some f) (hk : f.kind = .closeAll) :
    s.dataBlock p .nothing = some (.ok s (u2 f.done ++ u2 f.next)) := by
  unfold State.dataBlock
  rw [hx]
  dsimp only
  rw [hk]

end Sys2Proof.Machine

namespace Sys2Proof.Proofs

open Machine

/-- Settles O43: each read is its block's answer, whose state is the state that was read. -/
theorem readsChangeNothingButTheReply : Obligations.ReadsChangeNothingButTheReply := by
  refine fun s p t g hs => ⟨fun k hk => ?_, fun n hn => ?_, fun c hc => ?_, fun b hb => ?_, fun d h1 h2 => ?_,
    fun n q hq => ?_, exec_ok hs rfl rfl rfl rfl, fun n hp hn h => ?_, fun n hp hn h1 h2 => ?_⟩
  · exact exec_ok hs rfl rfl rfl (if_neg (Nat.not_le.2 hk))
  · exact exec_ok hs rfl rfl rfl (trainGuard_of_lt s hn _)
  · exact exec_ok hs rfl rfl rfl (clockGuard_of_lt hc _)
  · exact exec_ok hs rfl rfl rfl (if_neg (Nat.not_le.2 hb))
  · refine exec_ok hs rfl rfl rfl ((if_neg (by simp [deskExists_eq_true h1 h2])).trans ?_)
    cases (s.desk d).reachable <;> rfl
  · refine exec_ok hs rfl rfl rfl ?_
    change s.portStatusBlock n = _
    unfold State.portStatusBlock
    rw [hq]
  · subst hp
    refine exec_ok hs rfl rfl rfl ((trainGuard_of_lt s hn _).trans ?_)
    exact if_pos h
  · subst hp
    exact exec_refuse hs rfl rfl rfl ((trainGuard_of_lt s hn _).trans (if_neg (not_or.2 ⟨h1, h2⟩)))

/-- Settles O44: the first class by priority is the one that NOTICE_TAKE finds. -/
theorem noticeTakeReturnsTheHighestClass : Obligations.NoticeTakeReturnsTheHighestClass := by
  refine fun s p t hs => ⟨fun k h1 hk hp he hbefore => exec_ok hs rfl rfl rfl ?_, fun h => exec_refuse hs rfl rfl rfl ?_⟩
  · change s.noticeTakeBlock p = _
    unfold State.noticeTakeBlock
    rw [State.nextNotice_eq_some h1 hk hp he hbefore]
  · change s.noticeTakeBlock p = _
    unfold State.noticeTakeBlock
    rw [State.nextNotice_eq_none h]

/-- Settles O45: the mask is cut to the port's classes; a raised class is set in its own flag alone. -/
theorem noticeMaskAndRaise : Obligations.NoticeMaskAndRaise := by
  refine ⟨fun s p t m hs => ?_, fun s p n d h => ⟨?_, fun q j hne => ?_⟩⟩
  · intro v
    refine exec_ok hs rfl rfl rfl ?_
    change Answer.ok (s.setPort p { s.port p with mask := v }) (u1 v.toNat) = _
    rw [u1_toNat]
  · rw [State.raise_eq s p n d h, State.setFlag_flag, if_pos ⟨rfl, rfl⟩]
  · rw [State.raise_eq s p n d h, State.setFlag_flag, if_neg]
    rintro ⟨rfl, rfl⟩
    simp at hne

/-- Settles O46: DATA counts the unit that its transfer takes; the branches of a segment record in order. -/
theorem dataDoesTheNextUnit : Obligations.DataDoesTheNextUnit := by
  intro s p t u hon
  refine ⟨fun hx => exec_data hon (State.dataBlock_idle hx u), fun f hx => ?_, fun r => ?_⟩
  · intro counted
    have hcount : ∀ x : State, x.countUnits p { f with done := f.done + 1 } = counted x := fun x => rfl
    refine ⟨fun r hk hu => ?_, fun r hk hu => ?_, fun c hk hu => ?_, fun hk hu => ?_⟩ <;> subst hu
    · exact exec_data hon (State.dataBlock_lot hx hk r)
    · exact exec_data hon (State.dataBlock_segment hx hk r)
    · exact exec_data hon (State.dataBlock_report hx hk)
    · exact exec_data hon (State.dataBlock_walk hx hk)
  · intro g a refused numbered kind elsewhere bound
    have hkind : segKind r.kind r.param = kind := rfl
    refine ⟨fun h => State.writeSegment_of_underWay h, fun h hn => State.writeSegment_of_not_numbered h hn,
      fun h hn hcode => ?_, fun q h hn hq hg he => ?_⟩
    · have hnone : SegLayout.ofRecord r = none := SegLayout.ofRecord_eq_none hcode
      change s.writeSegment r = _
      rw [State.writeSegment_of_numbered h hn, hnone]
      rfl
    have hwrite := State.writeSegment_of_numbered h hn
    rw [SegLayout.ofRecord_eq_some hq hg he] at hwrite
    dsimp only at hwrite
    refine ⟨fun hor => ?_, fun hels hbnd => ?_⟩
    · refine hwrite.trans ?_
      by_cases hels : elsewhere q
      · exact if_pos ((State.presentElsewhere_iff _ _).2 hels)
      · exact (if_neg fun hp => hels ((State.presentElsewhere_iff _ _).1 hp)).trans
          (if_pos ((keepsOccupied_eq_false_iff _ _).2 (hor.resolve_left hels)))
    · intro m v broken
      have htake : a = s.takeSegment g m := hwrite.trans
        ((if_neg fun hp => hels ((State.presentElsewhere_iff _ _).1 hp)).trans
          (if_neg fun hp => hbnd ((keepsOccupied_eq_false_iff _ _).1 hp)))
      have hdefine : s.defineSegment g m = v := State.defineSegment_eq g m
      have hbroken : v.brokenMoves = broken := State.brokenMoves_eq
      have hrecord : SegLayout.record g m = _ := SegLayout.record_of_segKind hq he m.succ m.filter
      rw [htake]
      unfold State.takeSegment
      dsimp only
      rw [hdefine, hbroken, hrecord]
      exact ⟨rfl, rfl, rfl⟩

/-- Settles O47: a good frame marks its desk before it finds a place or none. -/
theorem deskFramesAreQueuedAndAcknowledged : Obligations.DeskFramesAreQueuedAndAcknowledged := by
  refine fun s hon => ⟨fun f => ?_, fun f rest hq hm => ?_⟩
  · intro u
    have hexec : exec (.deskFrameReceive f) s = .next (s.receive f) := congrArg _ (if_pos hon)
    refine ⟨fun hgood hroom => hexec.trans (congrArg _ ((if_pos hgood).trans (if_pos hroom))),
      fun hgood hfull => hexec.trans (congrArg _ ((if_pos hgood).trans (if_neg (Nat.not_lt.2 hfull)))),
      fun hbad => hexec.trans (congrArg _ (if_neg (by simp [hbad])))⟩
  · have hturn : s.turn = some .malformed := by simp [State.turn, hon, hq, hm]
    change execMalformedFrameDiscard s = _
    unfold execMalformedFrameDiscard
    rw [hturn]
    dsimp only
    unfold State.handOn
    rw [hq]
    rfl

end Sys2Proof.Proofs
end

section
/-! YRD: forming and disbanding, moves, launches and cancels (R21, R25 to R30, R39). -/

namespace Sys2Proof.Machine

set_option Elab.async false

variable {s : State} {t n : Nat}

/-! ## Lots of a train -/

theorem State.updLot_lot (k j : Nat) (f : LotRec → LotRec) :
    (s.updLot k f).lot j = if j = k then (s.lot k).map f else s.lot j := by
  unfold State.updLot
  cases h : s.lot k with
  | none =>
    by_cases hj : j = k
    · simp [hj, h]
    · simp [hj]
  | some r => exact s.setLot_lot k j _

/-- A change that made twice is made once, of every lot of a list: the lots of the list, and no others, are changed. -/
theorem State.each_updLot_lot (f : LotRec → LotRec) (hf : ∀ r, f (f r) = f r) (l : List Nat) (s : State) (j : Nat) :
    (State.each (fun k q => q.updLot k f) l s).lot j = if j ∈ l then (s.lot j).map f else s.lot j := by
  induction l generalizing s with
  | nil => simp [State.each]
  | cons k l ih =>
    have hff : f ∘ f = f := funext hf
    rw [State.each, ih, State.updLot_lot]
    by_cases hj : j = k
    · subst hj
      simp [hff]
    · simp [hj]

theorem State.each_updLot_frame (f : LotRec → LotRec) (l : List Nat) (s : State) :
    ∃ x, State.each (fun k q => q.updLot k f) l s = { s with lots := x } := by
  induction l generalizing s with
  | nil => exact ⟨s.lots, rfl⟩
  | cons k l ih =>
    obtain ⟨x, hx⟩ := s.updLot_frame k f
    obtain ⟨y, hy⟩ := ih (s.updLot k f)
    exact ⟨y, by rw [State.each, hy, hx]⟩

theorem noRepeats_iff (l : List Nat) : noRepeats l = true ↔ l.Nodup := by
  induction l with
  | nil => simp [noRepeats]
  | cons g l ih => simp [noRepeats, ih]

theorem State.lotIs_iff (k : Nat) (q : LotState) : s.lotIs k q = true ↔ ∃ r, s.lot k = some r ∧ r.state = q := by
  unfold State.lotIs
  cases s.lot k <;> simp

theorem Segment.storage_iff (x : Segment) :
    x.storage = true ↔ x.state = .free ∧ ∃ m, x.layout = some m ∧ (m.kind = .store ∨ m.kind = .stage) := by
  unfold Segment.storage
  cases x.layout <;> simp

/-! ## Forming and disbanding (R25, R26) -/

theorem State.trainFormBlock_of_lt {g : Nat} {l : List Nat} (hn : n < 64) (hg : g < 128) (hl : ∀ k ∈ l, k < 4096) :
    s.trainFormBlock n g l =
      if (s.train n).state ≠ .empty then .refuse s .wrongState
      else if (s.seg g).storage = false then .refuse s .wrongState
      else if l.isEmpty = true ∨ 12 < l.length ∨ noRepeats l = false then .refuse s .wrongState
      else
        match l.find? fun k => !s.lotIs k .registered with
        | some k => { code := .wrongState, fields := u2 k, state := s }
        | none => .ok (s.formTrain n g l) [] := by
  refine (if_neg ?_).trans (by rfl)
  rintro (h | h | h)
  · exact Nat.not_le.2 hn h
  · exact Nat.not_le.2 hg h
  · obtain ⟨k, hk, hle⟩ := List.any_eq_true.1 h
    exact Nat.not_le.2 (hl k hk) (of_decide_eq_true hle)

/-- A list of 1 to 12 lots with none twice (R25). -/
theorem fit_iff (l : List Nat) :
    (1 ≤ l.length ∧ l.length ≤ 12 ∧ l.Nodup) ↔ ¬(l.isEmpty = true ∨ 12 < l.length ∨ noRepeats l = false) := by
  rw [← noRepeats_iff, Nat.one_le_iff_ne_zero, Ne, List.length_eq_zero_iff, List.isEmpty_iff, not_or, not_or, Nat.not_lt,
    Bool.not_eq_false]

theorem State.trainFormBlock_of_unfit {g : Nat} {l : List Nat} (hn : n < 64) (hg : g < 128) (hl : ∀ k ∈ l, k < 4096)
    (h : (s.train n).state ≠ .empty ∨
      ¬((s.seg g).state = .free ∧ ∃ m, (s.seg g).layout = some m ∧ (m.kind = .store ∨ m.kind = .stage)) ∨
      ¬(1 ≤ l.length ∧ l.length ≤ 12 ∧ l.Nodup)) :
    s.trainFormBlock n g l = .refuse s .wrongState := by
  rw [← Segment.storage_iff, fit_iff, not_not, Bool.not_eq_true] at h
  rw [State.trainFormBlock_of_lt hn hg hl]
  by_cases hempty : (s.train n).state ≠ .empty
  · exact if_pos hempty
  · by_cases hstorage : (s.seg g).storage = false
    · exact (if_neg hempty).trans (if_pos hstorage)
    · exact (if_neg hempty).trans
        ((if_neg hstorage).trans (if_pos ((h.resolve_left hempty).resolve_left hstorage)))

theorem State.trainFormBlock_of_fit {g : Nat} {l : List Nat} (hn : n < 64) (hg : g < 128) (hl : ∀ k ∈ l, k < 4096)
    (he : (s.train n).state = .empty)
    (hs : (s.seg g).state = .free ∧ ∃ m, (s.seg g).layout = some m ∧ (m.kind = .store ∨ m.kind = .stage))
    (hf : 1 ≤ l.length ∧ l.length ≤ 12 ∧ l.Nodup) :
    s.trainFormBlock n g l =
      (l.find? fun k => !s.lotIs k .registered).elim (.ok (s.formTrain n g l) [])
        fun k => { code := .wrongState, fields := u2 k, state := s } := by
  rw [State.trainFormBlock_of_lt hn hg hl]
  refine (if_neg (not_not.2 he)).trans ((if_neg ?_).trans ((if_neg ((fit_iff l).1 hf)).trans ?_))
  · rw [Bool.not_eq_false]
    exact (Segment.storage_iff _).2 hs
  · cases l.find? fun k => !s.lotIs k .registered <;> rfl

/-- The lots of a train, its segment and the train alone are changed when it is taken apart (R26). -/
theorem State.disband_eq (n : Nat) :
    ∃ u : State, s.disband n = u.reexamine ∧
      (∀ k, u.lot k = if k ∈ (s.train n).lots then (s.lot k).map fun r => { r with train := none } else s.lot k) ∧
      (∀ h, u.seg h = if (s.train n).head = some h then { s.seg h with state := .free } else s.seg h) ∧
      (∀ m, u.train m = if m = n then Train.empty else s.train m) ∧
      u = { s with lots := u.lots, yard := { s.yard with segs := u.yard.segs, trains := u.yard.trains } } := by
  let clear : LotRec → LotRec := fun r => { r with train := none }
  obtain ⟨x, hx⟩ := State.each_updLot_frame clear (s.train n).lots s
  have hlot := State.each_updLot_lot clear (fun _ => rfl) (s.train n).lots s
  unfold State.disband
  dsimp only
  change ∃ u : State, ((match (s.train n).head with
    | none => State.each (fun k q => q.updLot k clear) (s.train n).lots s
    | some g => (State.each (fun k q => q.updLot k clear) (s.train n).lots s).setSegState g .free).setTrain n
      Train.empty).reexamine = u.reexamine ∧ _
  refine ⟨_, rfl, ?_⟩
  rw [hx] at hlot ⊢
  cases hhead : (s.train n).head with
  | none => exact ⟨hlot, fun h => by simp; rfl, fun m => State.setTrain_train _ n m _, rfl⟩
  | some g =>
    refine ⟨hlot, fun h => ?_, fun m => State.setTrain_train _ n m _, rfl⟩
    refine (State.setSeg_seg _ g h _).trans ?_
    by_cases hh : h = g
    · subst hh
      exact (if_pos rfl).trans (if_pos rfl).symm
    · exact (if_neg hh).trans (if_neg fun e => hh (Option.some.inj e).symm).symm

/-! ## Moves (R21, R27) -/

theorem State.routeValid_iff (l : List Nat) :
    s.routeValid n l = true ↔
      2 ≤ l.length ∧ l.length ≤ 16 ∧ (s.train n).head = l.head? ∧ s.follows l = true ∧ l.Nodup ∧
        ∀ g ∈ l, (s.seg g).layout ≠ none := by
  simp only [State.routeValid, Bool.and_eq_true, decide_eq_true_eq, beq_iff_eq, noRepeats_iff, List.all_eq_true,
    Option.isSome_iff_ne_none, and_assoc]

theorem State.trainMoveBlock_of_lt {l : List Nat} (hn : n < 64) (hl : ∀ g ∈ l, g < 128) :
    s.trainMoveBlock n l =
      match (s.train n).state with
      | .presenting => .refuse s .lotsOpen
      | .empty | .queued | .moving | .stalled => .refuse s .wrongState
      | .stored | .stopped | .cleared | .atBay =>
        if s.routeValid n l = false then .refuse s .routeInvalid
        else if 16 ≤ s.yard.moves.length then .refuse s .full
        else .ok (s.queueMove n l).reexamine (u1 (s.yard.moves.length + 1)) := by
  refine (if_neg ?_).trans (by rfl)
  rintro (h | h)
  · exact Nat.not_le.2 hn h
  · obtain ⟨k, hk, hle⟩ := List.any_eq_true.1 h
    exact Nat.not_le.2 (hl k hk) (of_decide_eq_true hle)

/-- A train that may be given a move is judged by its route and the places of the queue. -/
theorem State.trainMoveBlock_of_free {l : List Nat} (hn : n < 64) (hl : ∀ g ∈ l, g < 128)
    (h : (s.train n).state = .stored ∨ (s.train n).state = .stopped ∨ (s.train n).state = .cleared ∨
      (s.train n).state = .atBay) :
    s.trainMoveBlock n l =
      if s.routeValid n l = false then .refuse s .routeInvalid
      else if 16 ≤ s.yard.moves.length then .refuse s .full
      else .ok (s.queueMove n l).reexamine (u1 (s.yard.moves.length + 1)) := by
  rw [State.trainMoveBlock_of_lt hn hl]
  rcases h with h | h | h | h <;> rw [h]

/-! ## Launches (R29, R30) -/

theorem State.eligible_iff {g : Nat} {rest : List Nat} (h : s.route n = g :: rest) :
    s.eligible n = true ↔
      (∀ h ∈ rest, (s.seg h).state = .free) ∧ (∀ h ∈ g :: rest, ∀ x, (s.seg h).state ≠ .fault x) ∧
        (s.window (s.seg g).group).length < 4 ∧ s.power.monitor = .normal := by
  have hrest : (∀ h ∈ rest, (s.seg h).state = .free) → ∀ h ∈ rest, ∀ x, (s.seg h).state ≠ .fault x :=
    fun hfree h hh x => by simp [hfree h hh]
  unfold State.eligible
  rw [h]
  dsimp only
  cases hq : (s.seg g).state with
  | fault x => simp [hq]
  | free | reserved _ | occupied _ =>
    simp only [Bool.and_eq_true, List.all_eq_true, beq_iff_eq, List.forall_mem_cons, hq, and_true,
      State.supplyOk, Config.windowSize, and_assoc]
    exact ⟨fun ⟨hfree, hwindow, hsupply⟩ => ⟨hfree, fun _ => nofun, hrest hfree, of_decide_eq_true hwindow, hsupply⟩,
      fun ⟨hfree, _, _, hwindow, hsupply⟩ => ⟨hfree, decide_eq_true hwindow, hsupply⟩⟩

theorem State.each_setSegState_seg (x : SegState) (l : List Nat) (s : State) (j : Nat) :
    (State.each (fun g q => q.setSegState g x) l s).seg j = if j ∈ l then { s.seg j with state := x } else s.seg j := by
  induction l generalizing s with
  | nil => simp [State.each]
  | cons k l ih =>
    have hset : (s.setSegState k x).seg j = if j = k then { s.seg k with state := x } else s.seg j :=
      s.setSeg_seg k j _
    rw [State.each, ih, hset]
    by_cases hj : j = k
    · simp [hj]
    · simp [hj]

theorem State.each_setSegState_frame (x : SegState) (l : List Nat) (s : State) :
    ∃ y, State.each (fun g q => q.setSegState g x) l s = { s with yard := { s.yard with segs := y } } := by
  induction l generalizing s with
  | nil => exact ⟨s.yard.segs, rfl⟩
  | cons k l ih =>
    obtain ⟨y, hy⟩ := ih (s.setSegState k x)
    exact ⟨y, by rw [State.each, hy]; rfl⟩

theorem State.launchUpTo_of_none (h : ∀ m ∈ s.yard.moves, s.eligible m = false) (k : Nat) :
    State.launchUpTo k s = s := by
  cases k with
  | zero => rfl
  | succ k =>
    have hfind : s.yard.moves.find? s.eligible = none := List.find?_eq_none.2 fun m hm => by simp [h m hm]
    simp only [State.launchUpTo, hfind]

theorem State.launchUpTo_of_some {before behind : List Nat} (hm : s.yard.moves = before ++ n :: behind)
    (hb : ∀ m ∈ before, s.eligible m = false) (he : s.eligible n = true) (k : Nat) :
    State.launchUpTo (k + 1) s = State.launchUpTo k (s.launch n) := by
  have hfind : s.yard.moves.find? s.eligible = some n := by
    rw [hm, List.find?_eq_some_iff_append]
    exact ⟨he, before, behind, rfl, fun m h => by simp [hb m h]⟩
  simp only [State.launchUpTo, hfind]

/-- What a launch leaves, the notice apart: the yard alone is changed. -/
theorem State.launch_eq (n : Nat) :
    ∃ w : State, s.launch n = w.raise .yrd .moveLaunched (.number n) ∧
      (∀ h, w.seg h = if h ∈ (s.route n).tail then { s.seg h with state := .reserved n } else s.seg h) ∧
      (∀ m, w.train m = if m = n then
        { s.train n with
          state := .moving, prior := none, clock := none, timer := some (s.yard.transitTimeout * 1000)
          move := (s.train n).move.map fun m => { m with next := 1 } } else s.train m) ∧
      (∀ g, w.window g = if g = (s.seg ((s.route n).headD 0)).group then
        s.window g ++ [{ time := s.floorTime, age := 0 }] else s.window g) ∧
      w.yard.moves = s.yard.moves.filter (· ≠ n) ∧ w = { s with yard := w.yard } := by
  obtain ⟨y, hy⟩ := State.each_setSegState_frame (.reserved n) (s.route n).tail s
  have hseg := State.each_setSegState_seg (.reserved n) (s.route n).tail s
  unfold State.launch
  dsimp only
  rw [hy] at hseg ⊢
  refine ⟨_, rfl, hseg, fun m => State.setTrain_train _ n m _, fun g => ?_, rfl, rfl⟩
  refine (State.setWindow_window _ _ g _).trans ?_
  by_cases hg : g = (s.seg ((s.route n).headD 0)).group
  · rw [if_pos hg, if_pos hg, hg]
    rfl
  · rw [if_neg hg, if_neg hg]
    rfl

/-! ## Cancels (R39) -/

theorem State.haltTrain_seg (h : s.TablesWf) (n g : Nat) :
    (s.haltTrain n).seg g = cancelSegment n (s.takenIn n) g (s.seg g) :=
  Tab.get_mapAll Segment.undefined (cancelSegment n (s.takenIn n)) s.yard.segs g rfl h.segs

end Sys2Proof.Machine

namespace Sys2Proof.Proofs

open Machine

/-- Settles O33: the checks of forming in order; both change the lots of the train, its segment and the train. -/
theorem trainsAreFormedAndDisbanded : Obligations.TrainsAreFormedAndDisbanded := by
  refine fun s t n hs hn => ⟨fun g l hg hl => ?_, fun g l m hg hl he hfree hm hkind h1 h12 hnodup hreg => ?_,
    fun h => ⟨fun hopen => ?_, fun hclosed => ?_⟩, fun h1 h2 => ?_⟩
  · intro refused storage fit
    refine ⟨fun h => exec_refuse hs rfl rfl rfl (State.trainFormBlock_of_unfit hn hg hl h),
      fun before k behind he hst hfit heq hbefore hk => ?_⟩
    have hfind : l.find? (fun k => !s.lotIs k .registered) = some k := by
      rw [heq, List.find?_eq_some_iff_append]
      refine ⟨?_, before, behind, rfl, fun j hj => ?_⟩
      · rw [Bool.not_eq_true', ← Bool.not_eq_true, State.lotIs_iff]
        rintro ⟨r, hr, hq⟩
        exact hk r hr hq
      · simpa using (State.lotIs_iff j .registered).2 (hbefore j hj)
    have hblock := State.trainFormBlock_of_fit hn hg hl he hst hfit
    rw [hfind] at hblock
    refine (exec_ready hs rfl rfl rfl).trans ?_
    rw [show Instr.block (.trainForm .yrd t n g l) s = _ from hblock]
    rfl
  · have hfind : l.find? (fun k => !s.lotIs k .registered) = none :=
      List.find?_eq_none.2 fun k hk => by simpa using (State.lotIs_iff k .registered).2 (hreg k hk)
    have hblock := State.trainFormBlock_of_fit hn hg hl he ⟨hfree, m, hm, hkind⟩ ⟨h1, h12, hnodup⟩
    rw [hfind] at hblock
    let join : LotRec → LotRec := fun r => { r with state := .onTrain, train := some n }
    obtain ⟨x, hx⟩ := State.each_updLot_frame join l s
    have hlot := State.each_updLot_lot join (fun _ => rfl) l s
    have hform : s.formTrain n g l =
        (({ s with lots := x } : State).setSeg g { s.seg g with state := .occupied n }).setTrain n
          { Train.empty with state := .stored, lots := l, head := some g, occupied := [g] } := by
      unfold State.formTrain
      dsimp only
      rw [show State.each (fun k q => q.updLot k fun r => { r with state := .onTrain, train := some n }) l s = _ from hx]
      rfl
    rw [hx] at hlot
    refine ⟨s.formTrain n g l, exec_ok hs rfl rfl rfl hblock, ?_⟩
    rw [hform]
    refine ⟨hlot, fun h => ?_, fun m => ?_, rfl⟩
    · exact State.setSeg_seg _ g h _
    · exact State.setTrain_train _ n m _
  · exact exec_refuse hs rfl rfl rfl
      ((trainGuard_of_lt s hn _).trans ((if_pos h).trans (if_neg (Bool.eq_false_iff.1 hopen))))
  · obtain ⟨u, hu, hlot, hseg, htrain, hframe⟩ := s.disband_eq n
    refine ⟨u, exec_ok hs rfl rfl rfl ((trainGuard_of_lt s hn _).trans ((if_pos h).trans ((if_pos hclosed).trans ?_))),
      hlot, hseg, htrain, hframe⟩
    rw [hu]
  · exact exec_refuse hs rfl rfl rfl ((trainGuard_of_lt s hn _).trans (if_neg (not_or.2 ⟨h1, h2⟩)))

/-- Settles O34: the state of the train, its route and the queue are judged in that order. -/
theorem trainMoveJoinsTheMoveQueue : Obligations.TrainMoveJoinsTheMoveQueue := by
  intro s t n l hs hn hl r free valid prior
  have hvalid : s.routeValid n l = true ↔ valid := State.routeValid_iff l
  have hinvalid : s.routeValid n l = false ↔ ¬valid := by rw [← hvalid, Bool.not_eq_true]
  refine ⟨fun h => ?_, fun h1 h2 => ?_, fun hf hv => ?_, fun hf hv hfull => ?_, fun hf hv hroom => ?_⟩
  · refine exec_refuse hs rfl rfl rfl ((State.trainMoveBlock_of_lt hn hl).trans ?_)
    rw [show (s.train n).state = .presenting from h]
  · refine exec_refuse hs rfl rfl rfl ((State.trainMoveBlock_of_lt hn hl).trans ?_)
    have h1' : ¬((s.train n).state = .stored ∨ (s.train n).state = .stopped ∨ (s.train n).state = .cleared ∨
      (s.train n).state = .atBay) := h1
    have h2' : (s.train n).state ≠ .presenting := h2
    cases hq : (s.train n).state <;> simp [hq] at h1' h2' <;> rfl
  · exact exec_refuse hs rfl rfl rfl ((State.trainMoveBlock_of_free hn hl hf).trans (if_pos (hinvalid.2 hv)))
  · exact exec_refuse hs rfl rfl rfl ((State.trainMoveBlock_of_free hn hl hf).trans
      ((if_neg fun h => hinvalid.1 h hv).trans (if_pos hfull)))
  · have hprior : r.state.asPrior = prior := by
      cases hq : r.state <;> simp [prior, hq, TrainState.asPrior]
    refine exec_ok hs rfl rfl rfl ((State.trainMoveBlock_of_free hn hl hf).trans
      ((if_neg fun h => hinvalid.1 h hv).trans ((if_neg (Nat.not_le.2 hroom)).trans ?_)))
    unfold State.queueMove
    dsimp only
    rw [show (s.train n).state.asPrior = _ from hprior]

/-- Settles O35: the walk finds the first eligible move; a launch writes the segments, window, queue and train. -/
theorem oldestEligibleMoveLaunches : Obligations.OldestEligibleMoveLaunches := by
  refine fun s => ⟨fun n g rest h => State.eligible_iff h, fun n h => ?_, fun h => State.launchUpTo_of_none h _,
    fun n before behind hmoves hbefore he hn => ?_⟩
  · unfold State.eligible
    rw [h]
  intro u
  obtain ⟨w, hu, hseg, htrain, hwindow, hqueue, hframe⟩ := s.launch_eq n
  obtain ⟨x, hraise, -⟩ := w.raise_ports .yrd .moveLaunched (.number n)
  have huw : u = { w with ports := x } := hu.trans hraise
  have hflag : u.flag .yrd 4 = { pending := true, again := (w.flag .yrd 4).pending, detail := .number n } := by
    rw [show u = _ from hu, State.raise_eq w .yrd .moveLaunched (.number n) (by decide), State.setFlag_flag]
    rfl
  have hwalk : s.reexamine = State.launchUpTo (s.yard.moves.length - 1) u := by
    obtain ⟨k, hk⟩ : ∃ k, s.yard.moves.length = k + 1 := ⟨before.length + behind.length, by simp [hmoves]; omega⟩
    unfold State.reexamine
    rw [hk]
    exact State.launchUpTo_of_some hmoves hbefore he k
  have hmoving : u.train n = _ := (congrArg (fun q : State => q.train n) huw).trans ((htrain n).trans (if_pos rfl))
  have hmoved : u.yard.moves = _ := (congrArg (fun q : State => q.yard.moves) huw).trans hqueue
  have hlaid : ∀ h, u.seg h = _ := fun h => (congrArg (fun q : State => q.seg h) huw).trans (hseg h)
  refine ⟨hwalk, fun h => ?_, fun h => ?_, ?_, ?_, ?_, fun m hm => ?_, ?_, fun m hm => ?_, fun g hg => ?_, ?_, ?_, ?_,
    ?_, ?_⟩
  · rw [hlaid]
    split <;> rfl
  · rw [hlaid]
    split <;> rfl
  · rw [hmoving]
  · rw [hmoving]
  · rw [hmoving]
  · exact (congrArg (fun q : State => q.train m) huw).trans ((htrain m).trans (if_neg hm))
  · simp [hmoved]
  · simp [hmoved, hm]
  · have hheadD : (s.route n).headD 0 = g := by rw [List.headD_eq_head?_getD, hg]; rfl
    exact (congrArg (fun q : State => q.window (s.seg g).group) huw).trans
      ((hwindow _).trans (if_pos (by rw [hheadD])))
  · rw [huw, hframe]
  · rw [huw, hframe]
  · rw [huw, hframe]
  · rw [hflag]
  · rw [hflag]

/-- Settles O37: a queued move returns its train to the prior state; a train under way keeps what it stands on. -/
theorem moveCancelEndsTheMove : Obligations.MoveCancelEndsTheMove := by
  intro s t n hs hn r
  refine ⟨fun q hq hp => ?_, fun hq hwf => ⟨s.haltTrain n, ?_, ?_, fun m hm => ?_, fun g hg => ?_, fun g hg => ?_,
    fun g h1 h2 => ?_, rfl⟩, fun h1 h2 h3 => ?_⟩
  · refine exec_ok hs rfl rfl rfl ((trainGuard_of_lt s hn _).trans ?_)
    have hreturn : (s.train n).returnState = q.state := by
      unfold Train.returnState
      rw [show (s.train n).prior = some q from hp]
    rw [show (s.train n).state = .queued from hq]
    unfold State.unqueue
    dsimp only
    rw [hreturn]
    rfl
  · refine exec_ok hs rfl rfl rfl ((trainGuard_of_lt s hn _).trans ?_)
    rcases hq with hq | hq <;> rw [show (s.train n).state = _ from hq] <;> rfl
  · exact (State.setTrain_train_same _ n _).trans (by rfl)
  · exact (State.setTrain_train _ n m _).trans (if_neg hm)
  · rw [State.haltTrain_seg hwf]
    simp [cancelSegment, hg]
  · rw [State.haltTrain_seg hwf]
    simp [cancelSegment, hg]
  · rw [State.haltTrain_seg hwf]
    unfold cancelSegment
    cases hq : (s.seg g).state with
    | reserved k => exact if_neg fun hk => h1 (by rw [hq, hk])
    | fault x =>
      cases x with
      | none => rfl
      | some k => exact if_neg fun hk => h2 (by rw [hq, hk])
    | free | occupied _ => rfl
  · refine exec_refuse hs rfl rfl rfl ((trainGuard_of_lt s hn _).trans ?_)
    have h1' : (s.train n).state ≠ .queued := h1
    have h2' : (s.train n).state ≠ .moving := h2
    have h3' : (s.train n).state ≠ .stalled := h3
    cases hq : (s.train n).state <;> simp [hq] at h1' h2' h3' <;> rfl

end Sys2Proof.Proofs
end

section
/-! Purchase arithmetic (R108, R118, R119, R125); signing in and out (R144 to R146); the clock timers (R75, R103); a
millisecond (R193). -/

namespace Sys2Proof.Machine

set_option Elab.async false

variable {s : State}

/-! ## Fees and nets (R118, R119) -/

theorem percentFee_mono {g h : Nat} (hgh : g ≤ h) (percentage : Nat) : percentFee g percentage ≤ percentFee h percentage :=
  Nat.div_le_div_right (Nat.add_le_add_right (Nat.mul_le_mul_right _ hgh) _)

theorem feeOf_mono (f : FeeClass) (price : Nat) {q n : Nat} (h : q ≤ n) : feeOf f price q ≤ feeOf f price n :=
  max_le_max
    (Nat.add_le_add (Nat.mul_le_mul_left _ h) (percentFee_mono (Nat.mul_le_mul_left price h) f.percentage)) le_rfl

theorem netOf_lt (f : FeeClass) {price q n : Nat} (hp : 1 ≤ price) (h : q < n) : netOf f price q < netOf f price n :=
  Nat.add_lt_add_of_lt_of_le (Nat.mul_lt_mul_of_pos_left h hp) (feeOf_mono f price h.le)

/-- The largest gross amount is 60000 stems at 99999 mils. -/
theorem grossOf_le {price q : Nat} (hp : price ≤ 99999) (hq : q ≤ 60000) : grossOf price q ≤ 5999940000 :=
  Nat.mul_le_mul hp hq

theorem feeOf_le {f : FeeClass} {price q : Nat} (hp : price ≤ 99999) (hq : q ≤ 60000) (hs : f.stemFee ≤ 999)
    (hr : f.percentage ≤ 2000) (hm : f.minimum ≤ 100000) : feeOf f price q ≤ 1259928000 := by
  have hstem : f.stemFee * q ≤ 999 * 60000 := Nat.mul_le_mul hs hq
  have hproduct : grossOf price q * f.percentage ≤ 5999940000 * 2000 := Nat.mul_le_mul (grossOf_le hp hq) hr
  unfold feeOf percentFee
  omega

/-! ## Quantities (R108, R125) -/

theorem emin_le_clampQuantity (g : Given) (r : LotRec) : emin r ≤ clampQuantity g r := le_max_right ..

/-- The largest value that fits among `base + j * u` with `j` at most `n`; `base` when none does. -/
theorem largestFit_spec (fits : Nat → Bool) (base u n : Nat) :
    ∃ j, j ≤ n ∧ largestFit fits base u n = base + j * u ∧ (j = 0 ∨ fits (base + j * u) = true) ∧
      ∀ i, j < i → i ≤ n → fits (base + i * u) = false := by
  induction n with
  | zero => exact ⟨0, le_rfl, by simp [largestFit], .inl rfl, fun i h h' => absurd h (by omega)⟩
  | succ n ih =>
    unfold largestFit
    split
    · next h => exact ⟨n + 1, le_rfl, rfl, .inr h, fun i h1 h2 => absurd h1 (by omega)⟩
    · next h =>
      obtain ⟨j, hj, heq, hfits, hlater⟩ := ih
      refine ⟨j, by omega, heq, hfits, fun i h1 h2 => ?_⟩
      rcases (show i ≤ n ∨ i = n + 1 by omega) with h3 | rfl
      · exact hlater i h1 h3
      · simpa using h

/-- The multiples of the unit above Emin that stay within the remaining stems are the first `(remaining - Emin) / unit`. -/
theorem emin_add_mul_le_iff {r : LotRec} (hu : 0 < r.unit) (i : Nat) :
    emin r + i * r.unit ≤ r.remaining ↔ i ≤ (r.remaining - emin r) / r.unit := by
  have hle := emin_le_remaining r
  rw [Nat.le_div_iff_mul_le hu]
  omega

/-! ## The desk line (R144, R145) -/

theorem State.turn_of_head {f : DeskFrame} {rest : List DeskFrame} (hon : s.isOn = true)
    (h : s.line.inbound = f :: rest) : s.turn = some (readDesk f) := by
  simp [State.turn, hon, h]

theorem State.handOn_eq {f : DeskFrame} {rest : List DeskFrame} (h : s.line.inbound = f :: rest) :
    s.handOn = { s with line := { s.line with inbound := rest } } := by
  unfold State.handOn
  rw [h]
  rfl

theorem exec_signIn {d badge : Nat} (h : s.turn = some (.signIn d badge)) :
    exec .signIn s = .next (s.handOn.judgeSignIn d badge) := by
  change execSignIn s = _
  unfold execSignIn
  rw [h]

theorem exec_signOut {d : Nat} (h : s.turn = some (.signOut d)) :
    exec .signOut s = .next (s.handOn.judgeSignOut d) := by
  change execSignOut s = _
  unfold execSignOut
  rw [h]

theorem exec_statusAsk {d : Nat} (h : s.turn = some (.statusAsk d)) :
    exec .statusAsk s = .next (s.handOn.answerStatus d) := by
  change execStatusAsk s = _
  unfold execStatusAsk
  rw [h]

theorem State.judgeSignIn_of_unknown {d badge : Nat} (h : badge = 0 ∨ s.findBadge badge = none) :
    s.judgeSignIn d badge = s.offerReply d .unknownBadge none 0 .nothing := by
  have hfind : (if badge = 0 then none else s.findBadge badge) = none := by
    split
    · rfl
    · next h0 => exact h.resolve_left h0
  unfold State.judgeSignIn
  rw [hfind]
  rfl

theorem State.judgeSignIn_of_known {d badge b : Nat} (h0 : badge ≠ 0) (h : s.findBadge badge = some b) :
    s.judgeSignIn d badge =
      if (s.acct b).state ≠ .active then s.offerReply d .suspended none 0 .nothing
      else if (s.acct b).desk.isSome = true ∧ (s.acct b).desk ≠ some d then s.offerReply d .inUse none 0 .nothing
      else if (s.desk d).buyer.isSome = true ∧ (s.desk d).buyer ≠ some b then s.offerReply d .deskBusy none 0 .nothing
      else (s.bind d b).offerReply d .signedIn none 0 (.badge (some badge)) := by
  unfold State.judgeSignIn
  rw [if_neg h0, h]
  rfl

theorem State.judgeSignOut_of_unbound {d : Nat} (h : (s.desk d).buyer = none) :
    s.judgeSignOut d = s.offerReply d .notSignedIn none 0 .nothing := by
  unfold State.judgeSignOut
  rw [h]
  rfl

theorem State.judgeSignOut_of_bound {d b : Nat} (h : (s.desk d).buyer = some b) :
    s.judgeSignOut d =
      if s.isWinner d then s.offerReply d .winner none 0 .nothing
      else (s.unbind d b).offerReply d .signedOut none 0 .nothing := by
  unfold State.judgeSignOut
  rw [h]
  rfl

/-- An optional desk or buyer is another one exactly when it is there and differs. -/
theorem isSome_and_ne_iff {α : Type} {x : Option α} {d : α} :
    (x.isSome = true ∧ x ≠ some d) ↔ ∃ e, x = some e ∧ e ≠ d := by
  cases x <;> simp

theorem not_isSome_and_ne {α : Type} {x : Option α} {d : α} (h : x = none ∨ x = some d) :
    ¬(x.isSome = true ∧ x ≠ some d) := by
  rcases h with rfl | rfl <;> simp

/-! ## The clock timers (R75, R103) -/

theorem State.timeUp_iff (hon : s.isOn = true) (c : Nat) (q : ClockState) :
    s.timeUp c q = true ↔ (s.clock c).state = q ∧ (s.clock c).timer = some 0 := by
  simp [State.timeUp, hon]

theorem State.timeUp_eq_false (hon : s.isOn = true) {c : Nat} {q : ClockState}
    (h : (s.clock c).state ≠ q ∨ (s.clock c).timer ≠ some 0) : s.timeUp c q = false := by
  rw [← Bool.not_eq_true, State.timeUp_iff hon]
  rintro ⟨h1, h2⟩
  exact h.elim (· h1) (· h2)

end Sys2Proof.Machine

namespace Sys2Proof.Proofs

open Machine

/-- Settles O50: the fee does not fall with the stems; the fitting counts the multiples of the unit down to Emin. -/
theorem feesNetsAndFinalStems : Obligations.FeesNetsAndFinalStems := by
  refine ⟨fun f price q => ⟨rfl, rfl, fun n hp h => netOf_lt f hp h, fun hp hq hs hr hm => ?_⟩, fun g r fits hu => ?_⟩
  · have hfee := feeOf_le hp hq hs hr hm
    exact ⟨hfee, Nat.add_le_add (grossOf_le hp hq) hfee⟩
  · intro x low y
    have hx : x ≤ r.remaining := clampQuantity_le g r
    obtain ⟨j, hj, hfit, hfits, hlater⟩ := largestFit_spec fits (emin r) r.unit ((r.remaining - emin r) / r.unit)
    by_cases h : fits x = true
    · have hy : y = x := if_pos h
      exact ⟨hy ▸ hx, fun _ => hy, fun h' => by simp [h] at h', emin_le_clampQuantity g r, hx⟩
    · have hy : y = low + j * r.unit := (if_neg h).trans hfit
      refine ⟨hy ▸ (emin_add_mul_le_iff hu j).2 hj, fun h' => absurd h' h, fun _ => ⟨j, hy, ?_, fun i hi hle => ?_⟩,
        emin_le_clampQuantity g r, hx⟩
      · rw [hy]
        exact hfits
      · exact hlater i hi ((emin_add_mul_le_iff hu i).1 hle)

/-- Settles O52: the frame leaves the queue, and its desk and badge choose the answer. -/
theorem desksSignInAndOut : Obligations.DesksSignInAndOut := by
  intro s f rest d hon hq u answer
  have hturn := State.turn_of_head hon hq
  have hu : s.handOn = u := State.handOn_eq hq
  refine ⟨fun badge hf => ?_, fun hf => ?_, fun hf => ?_⟩
  · have hexec : exec .signIn s = .next (u.judgeSignIn d badge) := by
      rw [exec_signIn (hturn.trans (congrArg _ hf)), hu]
    refine ⟨fun h => hexec.trans (congrArg _ (State.judgeSignIn_of_unknown (s := u) h)), fun b h0 hb => ?_⟩
    have hjudge := hexec.trans (congrArg _ (State.judgeSignIn_of_known (s := u) h0 hb))
    refine ⟨fun h => hjudge.trans (congrArg _ (if_pos h)),
      fun h he => hjudge.trans (congrArg _ ((if_neg (not_not.2 h)).trans (if_pos (isSome_and_ne_iff.2 he)))),
      fun h hd he => hjudge.trans (congrArg _ ((if_neg (not_not.2 h)).trans ((if_neg (not_isSome_and_ne hd)).trans
        (if_pos (isSome_and_ne_iff.2 he))))),
      fun h hd he => hjudge.trans (congrArg _ ((if_neg (not_not.2 h)).trans ((if_neg (not_isSome_and_ne hd)).trans
        (if_neg (not_isSome_and_ne he)))))⟩
  · have hexec : exec .signOut s = .next (u.judgeSignOut d) := by
      rw [exec_signOut (hturn.trans (congrArg _ hf)), hu]
    refine ⟨fun h => hexec.trans (congrArg _ (State.judgeSignOut_of_unbound (s := u) h)), fun b hb => ?_⟩
    have hjudge := hexec.trans (congrArg _ (State.judgeSignOut_of_bound (s := u) hb))
    exact ⟨fun h => hjudge.trans (congrArg _ (if_pos h)),
      fun h => hjudge.trans (congrArg _ (if_neg (Bool.eq_false_iff.1 h)))⟩
  · rw [exec_statusAsk (hturn.trans (congrArg _ hf)), hu]
    rfl

/-- Settles O53: a timer's expiry is taken in its clock's state alone. -/
theorem clockStepsAndSettles : Obligations.ClockStepsAndSettles := by
  intro s c n hon k
  refine ⟨fun hstate htimer hpos h99 hprice => ?_, fun w hstate htimer hwin hreh => ?_, fun h => ?_, fun h => ?_⟩
  · have hn : (s.clock c).position.getD 0 = n := by rw [show (s.clock c).position = some n from hpos]; rfl
    have hmay : mayStep (s.clock c) = true := by
      unfold mayStep
      rw [hn]
      simpa using ⟨h99, hprice⟩
    change Host.Outcome.next (if s.timeUp c .running then if mayStep (s.clock c) then s.stepOn c else s.runOut c else s) = _
    rw [if_pos ((State.timeUp_iff hon c _).2 ⟨hstate, htimer⟩), if_pos hmay]
    unfold State.stepOn
    dsimp only
    rw [hn]
  · change Host.Outcome.next (if s.timeUp c .settling then s.settleUp c else s) = _
    rw [if_pos ((State.timeUp_iff hon c _).2 ⟨hstate, htimer⟩)]
    have hup : s.settleUp c = s.settleSale c w := by
      unfold State.settleUp
      dsimp only
      rw [show (s.clock c).winner = some w from hwin]
      exact if_neg (by rw [show (s.clock c).rehearsalRun = false from hreh]; decide)
    rw [hup]
    unfold State.settleSale State.replyAt
    dsimp only
    rw [State.setClock_clock_same]
    rfl
  · exact congrArg _ (if_neg (Bool.eq_false_iff.1 (State.timeUp_eq_false hon h)))
  · exact congrArg _ (if_neg (Bool.eq_false_iff.1 (State.timeUp_eq_false hon h)))

/-- Settles O60: every record of the tables is mapped. -/
theorem millisecondCountsTimeAgesAndTimers : Obligations.MillisecondCountsTimeAgesAndTimers := by
  refine fun s hon hwf => ⟨s.millisecond, congrArg _ (if_pos hon), rfl, fun c => ?_, fun c => ?_, fun n => ?_, fun g => ?_,
    fun g => ?_, rfl, rfl⟩
  · exact Tab.get_mapAll Clock.reset (fun _ (k : Clock) => { k with timer := countDown k.timer }) s.clocks c rfl hwf.clocks
  · exact Tab.get_mapAll Pres.reset (fun _ (p : Pres) => p.older) s.pres c rfl hwf.pres
  · exact Tab.get_mapAll Train.empty (fun _ (r : Train) => { r with timer := countDown r.timer }) s.yard.trains n rfl
      hwf.trains
  · exact Tab.get_mapAll [] (fun _ (w : List Launch) => w.map Launch.older) s.yard.windows g rfl hwf.windows
  · exact Tab.get_mapAll Segment.undefined
      (fun _ (x : Segment) => { x with timing := x.timing.map FilterTiming.nearer }) s.yard.segs g rfl hwf.segs

end Sys2Proof.Proofs
end

section
/-! The yard's events: launch times, transit timers, completion and clearing (R31, R36, R37, R41, R42); sense lines and
their edges (R22, R23, R32 to R35). -/

namespace Sys2Proof.Machine

set_option Elab.async false

variable {s : State} {n g : Nat}

theorem State.raise_train (p : Port) (k : Notice) (d : Detail) (n : Nat) : (s.raise p k d).train n = s.train n := by
  obtain ⟨x, hx, -⟩ := s.raise_ports p k d
  rw [hx]
  rfl

theorem State.raise_presOf (p : Port) (k : Notice) (d : Detail) (c : Nat) : (s.raise p k d).presOf c = s.presOf c := by
  obtain ⟨x, hx, -⟩ := s.raise_ports p k d
  rw [hx]
  rfl

theorem State.raise_allClosed (p : Port) (k : Notice) (d : Detail) (n : Nat) :
    (s.raise p k d).allClosed n = s.allClosed n := by
  obtain ⟨x, hx, -⟩ := s.raise_ports p k d
  rw [hx]
  rfl

/-! ## Launch windows and transit timers (R31, R37) -/

theorem State.launchAged_of_cons {e : Launch} {rest : List Launch} (h : s.window n = e :: rest) :
    s.launchAged n = decide (s.yard.windowLength * 1000 ≤ e.age) := by
  unfold State.launchAged
  rw [h]

theorem State.stall_of_underWay (h : (s.train n).state = .moving ∨ (s.train n).state = .stalled) (cause : StallCause) :
    s.stall n cause =
      (s.setTrain n { s.train n with state := .stalled, cause := some cause, timer := none }).raise .yrd .moveStalled
        (.number n) := if_pos h

theorem State.stall_of_not (h : ¬((s.train n).state = .moving ∨ (s.train n).state = .stalled)) (cause : StallCause) :
    s.stall n cause = s := if_neg h

theorem Train.underWay_iff (r : Train) : r.underWay = true ↔ r.state = .moving ∨ r.state = .stalled := by
  simp [Train.underWay]

/-! ## Completion and clearing (R36, R41, R42) -/

theorem State.route_of_move {m : Move} (h : (s.train n).move = some m) : s.route n = m.route := by
  unfold State.route
  rw [h]

theorem State.judgeComplete_of_last (h : (s.route n).getLast? = some g) :
    s.judgeComplete n =
      if (s.train n).state = .moving ∧ (s.train n).occupied = [g] ∧ (s.seg g).state = .occupied n then s.complete n g
      else s := by
  unfold State.judgeComplete
  rw [h]

theorem State.judgeComplete_of_none (h : (s.route n).getLast? = none) : s.judgeComplete n = s := by
  unfold State.judgeComplete
  rw [h]

/-- A train that has arrived and presents on no clock. -/
theorem State.complete_of_plain {q : TrainState} (h : arrivalState (s.seg g).kindOf = (q, none)) :
    s.complete n g =
      (s.setTrain n { s.train n with state := q, clock := none, move := none, cause := none, timer := none }).raise .yrd
        .moveDone (.number n) := by
  unfold State.complete
  rw [h]

/-- A train that has arrived at a presenting segment is cleared when its lots are closed, and named otherwise. -/
theorem State.complete_of_present {q : TrainState} {c : Nat} (h : arrivalState (s.seg g).kindOf = (q, some c)) :
    s.complete n g =
      let u := (s.setTrain n
        { s.train n with state := q, clock := some c, move := none, cause := none, timer := none }).raise .yrd .moveDone
          (.number n)
      if s.allClosed n then u.clearTrain n else (u.setPres c { s.presOf c with train := some n }).fill c := by
  have hclosed : ∀ r : Train, r.lots = (s.train n).lots → (s.setTrain n r).allClosed n = s.allClosed n := fun r hr => by
    unfold State.allClosed
    rw [State.setTrain_train_same, hr]
    rfl
  unfold State.complete
  rw [h]
  dsimp only
  rw [State.raise_allClosed,
    hclosed { s.train n with state := q, clock := some c, move := none, cause := none, timer := none } rfl]
  unfold State.nameTrain
  rw [State.raise_presOf]
  rfl

theorem State.clearTrain_eq :
    s.clearTrain n =
      let u := (s.setTrain n { s.train n with state := .cleared }).raise .yrd .trainCleared (.number n)
      match (s.train n).clock with
      | none => u
      | some c => if (s.presOf c).train = some n then u.setPres c { s.presOf c with train := none } else u := by
  unfold State.clearTrain
  dsimp only
  cases (s.train n).clock with
  | none => rfl
  | some c =>
    dsimp only
    rw [State.raise_presOf]
    rfl

/-! ## Sense lines (R22, R23) -/

theorem State.setSense_sensed (level : Bool) : (s.setSense g level).sensed g = level :=
  Tab.get_set_same false s.sense g level

theorem State.takeEdge_eq (m : SegLayout) :
    s.takeEdge g m =
      let v := s.setSeg g { s.seg g with level := s.sensed g, timing := none }
      if s.sensed g = m.rising then v.entryEdge g else v.leaveEdge g := rfl

/-- A changed line meets the filter of its segment. -/
theorem exec_senseLineChange {m : SegLayout} {level : Bool} (hon : s.isOn = true) (hg : g < 128)
    (hm : (s.seg g).layout = some m) (hl : s.sensed g ≠ level) :
    exec (.senseLineChange g level) s = .next ((s.setSense g level).filterChange g m) := by
  change Host.Outcome.next (if g < Config.segments ∧ s.sensed g ≠ level then s.senseChange g level else s) = _
  rw [if_pos ⟨hg, hl⟩]
  have hm' : ((s.setSense g level).seg g).layout = some m := hm
  have hon' : (s.setSense g level).isOn = true := hon
  unfold State.senseChange
  dsimp only
  rw [hm']
  dsimp only
  rw [if_pos hon']

theorem exec_senseFilterExpiry {m : SegLayout} {q : FilterTiming} (hon : s.isOn = true)
    (hm : (s.seg g).layout = some m) (hq : (s.seg g).timing = some q) (h0 : q.left = 0) :
    exec (.senseFilterExpiry g) s = .next (s.takeEdge g m).settle := by
  have hdone : s.filterDone g = some m := by
    unfold State.filterDone
    rw [hq, hm]
    exact if_pos ⟨hon, h0⟩
  change execSenseFilterExpiry g s = _
  unfold execSenseFilterExpiry
  rw [hdone]

/-! ## Edges (R32 to R35) -/

/-- The segments behind the head that an accepted entry releases. -/
theorem State.acceptEntry_eq (n g : Nat) :
    s.acceptEntry n g =
      (State.each (fun h q => q.releaseBehind n h)
        ((s.train n).occupied.filter fun h => h ≠ g && (s.seg h).vacant)
        ((s.setSeg g { s.seg g with state := .occupied n }).setTrain n
          { s.train n with
            occupied := (s.train n).occupied ++ [g], head := some g
            move := (s.train n).move.map fun m => { m with next := m.next + 1 }
            state := .moving, cause := none, timer := some (s.yard.transitTimeout * 1000) })).judgeComplete n := by
  have hseg : ∀ h, h ≠ g → (s.setSeg g { s.seg g with state := .occupied n }).seg h = s.seg h := fun h hh =>
    (s.setSeg_seg g h _).trans (if_neg hh)
  have hbehind : (((s.train n).occupied ++ [g]).filter fun h =>
      h ≠ g && ((s.setSeg g { s.seg g with state := .occupied n }).seg h).vacant) =
        (s.train n).occupied.filter fun h => h ≠ g && (s.seg h).vacant := by
    have hself : ∀ p : Nat → Bool, p g = false → [g].filter p = [] := fun p hp => by simp [hp]
    rw [List.filter_append, hself _ (by simp), List.append_nil]
    refine List.filter_congr fun h _ => ?_
    by_cases hh : h = g
    · simp [hh]
    · rw [hseg h hh]
  unfold State.acceptEntry State.enter
  dsimp only
  rw [State.setTrain_train_same, State.setTrain_setTrain]
  exact congrArg (fun l => (State.each (fun h q => q.releaseBehind n h) l _).judgeComplete n) hbehind

/-- An entry edge on a segment that a train has reserved is judged by the place of the segment in its route. -/
theorem State.entryEdge_of_reserved {m : Move} (hx : (s.seg g).state = .reserved n) (hm : (s.train n).move = some m) :
    s.entryEdge g =
      if m.route[m.next]? = some g then
        if (s.train n).state = .moving ∨ (s.train n).state = .stalled ∧ (s.train n).cause = some .transit then
          s.acceptEntry n g
        else s.enter n g
      else if m.route[m.next + 1]? = some g then s.stall n .order
      else ((s.setSegState g (.fault (some n))).raiseIntrusion g).stall n .intrusion := by
  unfold State.entryEdge
  rw [hx]
  dsimp only
  rw [State.route_of_move hm, hm]

end Sys2Proof.Machine

namespace Sys2Proof.Proofs

open Machine

/-- Settles O55: each expiry has its one condition; a move completes by the kind of its last segment. -/
theorem yardTimersExpire : Obligations.YardTimersExpire := by
  refine ⟨fun s n hon => ⟨fun e rest hw hage => ?_, fun e rest hw hage => ?_, fun hq ht => ?_, fun h => ?_⟩, fun s n => ?_⟩
  · change Host.Outcome.next (if s.isOn = true ∧ s.launchAged n = true then
      (s.setWindow n (s.window n).tail).reexamine else s) = _
    rw [if_pos ⟨hon, (State.launchAged_of_cons hw).trans (decide_eq_true hage)⟩, hw]
    rfl
  · refine congrArg _ (if_neg fun h => ?_)
    have haged := (State.launchAged_of_cons hw).symm.trans h.2
    exact absurd (of_decide_eq_true haged) (Nat.not_le.2 hage)
  · exact congrArg _ ((if_pos ⟨hon, hq, ht⟩).trans (State.stall_of_underWay (.inl hq) .transit))
  · exact congrArg _ (if_neg fun h' => h.elim (· h'.2.1) (· h'.2.2))
  intro r arrived cleared
  refine ⟨fun m g x hq hm hlast hocc hseg hx => ?_, fun h => ?_, rfl, fun hq hl => if_pos ⟨hq, hl⟩,
    fun h => if_neg fun h' => ?_, fun c hc ht => ?_, fun h => ?_⟩
  · have hroute : (s.route n).getLast? = some g := by rw [State.route_of_move hm]; exact hlast
    have hdone : s.judgeComplete n = s.complete n g :=
      (State.judgeComplete_of_last hroute).trans (if_pos ⟨hq, hocc, hseg⟩)
    have hkind : (s.seg g).kindOf = x.kind := by
      unfold Segment.kindOf
      rw [hx]
    refine ⟨fun hk => hdone.trans (State.complete_of_plain ?_), fun hk => hdone.trans (State.complete_of_plain ?_),
      fun c hk => ?_⟩
    · rcases hk with hk | hk | hk <;> rw [hkind, hk] <;> rfl
    · rcases hk with hk | ⟨b, hk⟩ <;> rw [hkind, hk] <;> rfl
    · have hpresent := hdone.trans (State.complete_of_present (q := .presenting) (c := c) (by rw [hkind, hk]; rfl))
      exact ⟨fun hl => hpresent.trans (if_neg (Bool.eq_false_iff.1 hl)), fun hl => hpresent.trans (if_pos hl)⟩
  · cases hlast : (s.route n).getLast? with
    | none => exact State.judgeComplete_of_none hlast
    | some g =>
      refine (State.judgeComplete_of_last hlast).trans (if_neg ?_)
      rintro ⟨hq, hocc, hseg⟩
      rcases h with h | h | h
      · exact h hq
      · have hnone : s.route n = [] := by
          unfold State.route
          rw [show (s.train n).move = none from h]
        simp [hnone] at hlast
      · cases hm : (s.train n).move with
        | none => simp [State.route, hm] at hlast
        | some m =>
          rw [State.route_of_move hm] at hlast
          exact (h m g hm hlast).elim (· hocc) (· hseg)
  · exact h.elim (· h'.1) fun hl => by
      have hl' : s.allClosed n = false := hl
      simp [hl'] at h'
  · rw [State.clearTrain_eq]
    dsimp only
    split
    · next hc' => cases hc'.symm.trans hc
    · next c' hc' =>
      obtain rfl := Option.some.inj (hc'.symm.trans hc)
      exact if_pos ht
  · rw [State.clearTrain_eq]
    dsimp only
    split
    · rfl
    · next c hc => exact if_neg (h c hc)

/-- Settles O56: the filter's three cases, and the edges by the state of their segment. -/
theorem senseLinesAreFilteredIntoEdges : Obligations.SenseLinesAreFilteredIntoEdges := by
  refine ⟨fun s g m hon hg hm => ?_, fun s g => ?_⟩
  · intro x edge
    refine ⟨fun level hl => ?_, congrArg _ (if_neg fun h => h.2 rfl), fun q hq h0 => ?_⟩
    · intro u
      have hexec : exec (.senseLineChange g level) s = .next (u.filterChange g m) := exec_senseLineChange hon hg hm hl
      have hsensed : u.sensed g = level := State.setSense_sensed level
      have hedge : u.takeEdge g m = edge u level := by
        rw [State.takeEdge_eq, hsensed]
        rfl
      refine ⟨fun h => hexec.trans (congrArg _ (if_pos (hsensed.trans h))), fun h h0 => hexec.trans (congrArg _ ?_),
        fun h h0 => hexec.trans (congrArg _ ((if_neg fun he => h (hsensed.symm.trans he)).trans (if_neg h0)))⟩
      rw [← hedge]
      exact (if_neg fun he => h (hsensed.symm.trans he)).trans (if_pos h0)
    · exact exec_senseFilterExpiry hon hm hq h0
  · intro x intruded
    refine ⟨fun hx => ?_, fun n hx => ?_, fun n m hx hm => ?_, fun n hx => ⟨fun hh => ?_, fun hh => ?_⟩, fun hx => ?_,
      fun n => rfl⟩
    · unfold State.entryEdge
      rw [show (s.seg g).state = .free from hx]
      rfl
    · unfold State.entryEdge
      rcases hx with hx | hx | hx <;> rw [show (s.seg g).state = _ from hx]
    · intro r stalled entered u
      have hstall : ∀ (v : State) (cause : StallCause), v.train n = r → v.stall n cause = stalled v cause :=
        fun v cause hv => by
          by_cases hr : r.underWay = true
          · rw [State.stall_of_underWay (by rw [hv]; exact r.underWay_iff.1 hr), hv]
            exact (if_pos hr).symm
          · rw [State.stall_of_not (by rw [hv]; exact fun h => hr (r.underWay_iff.2 h))]
            exact (if_neg hr).symm
      have hedge := State.entryEdge_of_reserved hx hm
      have hmove : (s.train n).move.map (fun m => { m with next := m.next + 1 }) = some { m with next := m.next + 1 } := by
        rw [hm]
        rfl
      refine ⟨fun h1 => ⟨fun hq => ?_, fun hq hc => ?_⟩, fun h1 h2 => ?_, fun h1 h2 => ?_⟩
      · refine hedge.trans ((if_pos h1).trans ((if_pos hq).trans ?_))
        rw [State.acceptEntry_eq, hmove]
      · refine hedge.trans ((if_pos h1).trans ((if_neg ?_).trans ?_))
        · have hq' : (s.train n).state = .stalled := hq
          have hc' : (s.train n).cause = some .intrusion ∨ (s.train n).cause = some .order := hc
          rcases hc' with hc' | hc' <;> simp [hq', hc']
        · change u.setTrain n { s.train n with
            occupied := r.occupied ++ [g], head := some g
            move := (s.train n).move.map fun m => { m with next := m.next + 1 } } = _
          rw [hmove]
      · exact hedge.trans ((if_neg h1).trans ((if_pos h2).trans (hstall s .order rfl)))
      · refine hedge.trans ((if_neg h1).trans ((if_neg h2).trans (hstall _ .intrusion ?_)))
        exact (State.raise_train .yrd .intrusion _ n).trans (State.raise_train .sup .intrusion _ n)
    · unfold State.leaveEdge
      rw [show (s.seg g).state = .occupied n from hx]
      exact if_pos hh
    · unfold State.leaveEdge
      rw [show (s.seg g).state = .occupied n from hx]
      exact if_neg hh
    · unfold State.leaveEdge
      cases hq : (s.seg g).state with
      | occupied n => exact absurd hq (hx n)
      | free | reserved _ | fault _ => rfl

end Sys2Proof.Proofs
end

section
/-! Begins of a run (R54, R55, R69 to R74, R80, R84, R153). -/

namespace Sys2Proof.Machine

set_option Elab.async false

variable {s : State} {t c : Nat}

/-! ## Reservations (R151, R153) -/

/-- A notice is told by the ports as they stand. -/
theorem State.raise_of_ports {u : State} (h : u.ports = s.ports) (p : Port) (n : Notice) (d : Detail) :
    u.raise p n d = { u with ports := (s.raise p n d).ports } := by
  have hport : u.port p = s.port p := by cases p <;> simp only [State.port, h]
  unfold State.raise
  dsimp only
  split
  · rw [← h]
  · unfold State.setFlag State.flag
    rw [hport]
    cases p <;> simp only [State.setPort, h]

theorem State.raise_raise_of_ports {u : State} (h : u.ports = s.ports) (p q : Port) (n m : Notice) (d e : Detail) :
    (u.raise p n d).raise q m e = { u with ports := ((s.raise p n d).raise q m e).ports } := by
  rw [State.raise_of_ports h]
  exact State.raise_of_ports (s := s.raise p n d) (u := { u with ports := (s.raise p n d).ports }) rfl q m e

/-- JOURNAL_LOW to FIN and AUC when `n` entries are used or reserved. -/
def State.lowPorts (s : State) (n : Nat) : Ports :=
  if n < 7936 then s.ports
  else ((s.raise .fin .journalLow (.number (8192 - n))).raise .auc .journalLow (.number (8192 - n))).ports

theorem State.lowPorts_of_ports {u : State} (h : u.ports = s.ports) (n : Nat) : u.lowPorts n = s.lowPorts n := by
  unfold State.lowPorts
  rw [State.raise_raise_of_ports h, h]

theorem State.takeReservation_of_free (h : (s.clock c).reserved = false) :
    s.takeReservation c =
      { (s.setValues { s.values with reserved := s.values.reserved + 1 }).setClock c
          { s.clock c with reserved := true } with
        ports := s.lowPorts (s.values.used + s.values.reserved + 1) } := by
  rw [State.takeReservation_eq s c h]
  unfold State.lowPorts
  dsimp only
  rw [← Nat.add_assoc]
  by_cases hn : s.values.used + s.values.reserved + 1 < 7936
  · rw [if_pos hn, if_neg (Nat.not_le.2 hn)]
    rfl
  · rw [if_neg hn, if_pos (Nat.not_lt.1 hn)]
    exact State.raise_raise_of_ports rfl ..

/-- The reservation step of a begin (R71, R83): the clock's mark, the journal's values and JOURNAL_LOW. -/
theorem State.reserveFor_eq (kind : BeginKind) (c : Nat) :
    ∃ u : State, (if kind = .rehearsal then s else s.takeReservation c) = u ∧
      u.clock c = { s.clock c with reserved := if (kind == .rehearsal) = true then (s.clock c).reserved else true } ∧
      (∀ d, d ≠ c → u.clock d = s.clock d) ∧
      u.journal = (if (kind == .rehearsal) = true ∨ (s.clock c).reserved = true then s.journal
        else (s.setValues { s.values with reserved := s.values.reserved + 1 }).journal) ∧
      u.ports = (if (kind == .rehearsal) = true ∨ (s.clock c).reserved = true then s.ports
        else s.lowPorts (s.values.used + s.values.reserved + 1)) ∧
      u = { s with clocks := u.clocks, journal := u.journal, ports := u.ports } := by
  refine ⟨_, rfl, ?_⟩
  by_cases hk : kind = .rehearsal
  · subst hk
    exact ⟨rfl, fun d _ => rfl, (if_pos (.inl rfl)).symm, (if_pos (.inl rfl)).symm, rfl⟩
  · have hk' : ¬((kind == .rehearsal) = true) := by simpa using hk
    rw [if_neg hk, if_neg hk']
    cases hr : (s.clock c).reserved with
    | true =>
      rw [show s.takeReservation c = s from if_pos hr, if_pos (.inr rfl), if_pos (.inr rfl), ← hr]
      exact ⟨rfl, fun d _ => rfl, rfl, rfl, rfl⟩
    | false =>
      have hno : ¬((kind == .rehearsal) = true ∨ false = true) := by simp [hk]
      rw [State.takeReservation_of_free hr, if_neg hno, if_neg hno]
      exact ⟨s.setClock_clock_same c _, fun d hd => (s.setClock_clock c d _).trans (if_neg hd), rfl, rfl, rfl⟩

/-! ## A begin that is taken (R71) -/

theorem SameRecords.of_frame {u : State} (h : u = { s with clocks := u.clocks, journal := u.journal, ports := u.ports }) :
    SameRecords s u := by
  rw [h]
  exact ⟨rfl, rfl, rfl, rfl, rfl, rfl, rfl, rfl, rfl, rfl, rfl⟩

/-- A begin whose RUN frame is in the queue leaves the run begun. -/
theorem runBegun_takeBegin (c : Nat) (kind : BeginKind) (price reserve start : Nat) :
    RunBegun s
      ((s.setOutbound (s.line.outbound ++
        [{ frame := .run c (tagNext (s.clock c).tag) price (s.clock c).set.step (s.clock c).set.interval start reserve
             (kind == .rehearsal)
           sent := 0 }])).takeBegin c kind price reserve start)
      c price reserve start (kind == .rehearsal) := by
  generalize hv : s.setOutbound (s.line.outbound ++ _) = v
  have hlow : v.lowPorts (v.values.used + v.values.reserved + 1) = s.lowPorts (s.values.used + s.values.reserved + 1) := by
    rw [← hv]
    exact State.lowPorts_of_ports rfl _
  have hclock : v.clock c = s.clock c := hv ▸ rfl
  obtain ⟨u, hu, hc, hd, hjournal, hports, hframe⟩ := State.reserveFor_eq (s := v) kind c
  rw [hlow] at hports
  unfold State.takeBegin
  rw [hu]
  subst hv
  have hline := congrArg State.line hframe
  have hpres := fun d => congrArg (fun q : State => q.presOf d) hframe
  have hrest := SameRecords.of_frame hframe
  refine
    { clock := ?_, others := fun d hne => (State.setClock_clock _ c d _).trans ((if_neg hne).trans (hd d hne))
      frame := hline, journal := hjournal, ports := hports.trans ?_
      pending := ?_, queues := fun d hne => ?_
      rest := ⟨hrest.lots, hrest.accounts, hrest.change, hrest.yard, hrest.sense, hrest.rotation, hrest.fees,
        hrest.desks, hrest.floorTime, hrest.power, hrest.pending⟩ }
  · refine (State.setClock_clock_same u c _).trans ?_
    rw [hc, hclock]
    cases kind <;> rfl
  · rw [hclock]
    unfold State.lowPorts
    dsimp only
    by_cases h1 : (kind == .rehearsal) = true ∨ (s.clock c).reserved = true
    · rw [if_pos h1, if_pos (by tauto)]
      rfl
    · by_cases h2 : s.values.used + s.values.reserved + 1 < 7936
      · rw [if_neg h1, if_pos h2, if_pos (by tauto)]
      · rw [if_neg h1, if_neg h2, if_neg (by tauto)]
  · refine (State.setPres_presOf_same _ c _).trans ?_
    change { u.presOf c with pending := none, ready := none, unrun := false } = _
    rw [show u.presOf c = s.presOf c from hpres c]
  · exact (State.setPres_presOf _ c d _).trans ((if_neg hne).trans (hpres d))

/-- S and M of a begin on a lot (R69). -/
theorem State.pricesFor_lot {kind : BeginKind} {l : Nat} {r : LotRec} (hk : kind ≠ .rehearsal)
    (hl : (s.clock c).lot = some l) (hr : s.lot l = some r) :
    s.pricesFor (s.clock c) kind = (runStart (s.clock c) r, r.reserve) := by
  unfold State.pricesFor
  rw [if_neg hk, hl]
  dsimp only [Option.bind_some]
  rw [hr]
  rfl

theorem State.supplyOk_of_normal (h : s.power.monitor = .normal) : s.supplyOk = true := by simp [State.supplyOk, h]

theorem State.supplyOk_of_low (h : s.power.monitor = .low) : s.supplyOk = false := by simp [State.supplyOk, h]

/-- A begin that passes its checks and finds a free place is taken (R71). -/
theorem State.beginRun_taken (kind : BeginKind) {price reserve : Nat} (hsupply : s.power.monitor = .normal)
    (hroom : s.line.outbound.length < 16) (hfree : kind = .rehearsal ∨ s.CanReserve c)
    (hprices : s.pricesFor (s.clock c) kind = (price, reserve)) :
    ∃ u, s.beginRun c kind = (.taken, u) ∧
      RunBegun s u c price reserve (startPosition (s.clock c) kind) (kind == .rehearsal) := by
  refine ⟨_, ?_, runBegun_takeBegin c kind price reserve (startPosition (s.clock c) kind)⟩
  have hjournal : ¬(kind ≠ .rehearsal ∧ (s.clock c).reserved = false ∧ s.journalIsFull = true) := by
    rintro ⟨hk, hr, hfull⟩
    rcases hfree with h | h | h
    · exact hk h
    · simp [hr] at h
    · exact Nat.not_le.2 h (of_decide_eq_true hfull)
  unfold State.beginRun
  dsimp only
  rw [if_neg (by simp [State.supplyOk_of_normal hsupply]), if_neg hjournal, hprices]
  dsimp only
  rw [State.offer_of_room s _ hroom, joinQueue_broadcast _ _ rfl]

/-- A run begun on a clock whose timer was stopped and whose waiting begin was dropped is begun on the clock as it
stood (R72, R73). -/
theorem RunBegun.of_setClock {u : State} {price reserve start : Nat} {reh : Bool} {timer : Option Nat}
    {begin' : Option WaitBegin}
    (h : RunBegun (s.setClock c { s.clock c with timer := timer, waitBegin := begin' }) u c price reserve start reh) :
    RunBegun s u c price reserve start reh := by
  have hc : (s.setClock c { s.clock c with timer := timer, waitBegin := begin' }).clock c =
      { s.clock c with timer := timer, waitBegin := begin' } := s.setClock_clock_same c _
  obtain ⟨hclock, hothers, hframe, hjournal, hports, hpending, hqueues, hrest⟩ := h
  rw [hc] at hclock hframe hjournal hports
  refine
    { clock := hclock, others := fun d hd => (hothers d hd).trans ((s.setClock_clock c d _).trans (if_neg hd))
      frame := hframe, journal := hjournal, ports := hports, pending := hpending, queues := hqueues
      rest := ⟨hrest.lots, hrest.accounts, hrest.change, hrest.yard, hrest.sense, hrest.rotation, hrest.fees,
        hrest.desks, hrest.floorTime, hrest.power, hrest.pending⟩ }

end Sys2Proof.Machine
end

section
/-! A begin that is taken, waits or fails, by its kind (R54, R55, R71 to R74, R80, R84, R173). -/

namespace Sys2Proof.Machine

set_option Elab.async false

variable {s : State} {t c : Nat}

/-! ## The outcomes of a begin (R71 to R73) -/

theorem State.beginRun_noSupply (h : s.power.monitor = .low) (c : Nat) (kind : BeginKind) :
    s.beginRun c kind = (.noSupply, s) :=
  if_pos (by simp [State.supplyOk_of_low h])

theorem State.beginRun_noJournal {kind : BeginKind} (h : s.power.monitor = .normal) (hk : kind ≠ .rehearsal)
    (hr : (s.clock c).reserved = false) (hfull : 8192 ≤ s.values.used + s.values.reserved) :
    s.beginRun c kind = (.noJournal, s) :=
  (if_neg (by simp [State.supplyOk_of_normal h])).trans (if_pos ⟨hk, hr, decide_eq_true hfull⟩)

/-- A begin passes its journal check when it is a rehearsal run or an entry can be reserved (R71). -/
theorem State.journalCheck_passes {kind : BeginKind} (h : kind = .rehearsal ∨ s.CanReserve c) :
    ¬(kind ≠ .rehearsal ∧ (s.clock c).reserved = false ∧ s.journalIsFull = true) := by
  rintro ⟨hk, hr, hfull⟩
  rcases h with h | h | h
  · exact hk h
  · simp [hr] at h
  · exact Nat.not_le.2 h (of_decide_eq_true hfull)

/-- A begin whose RUN frame finds no place waits, with no reservation (R73). -/
theorem State.beginRun_waiting {kind : BeginKind} (hsupply : s.power.monitor = .normal)
    (hfree : kind = .rehearsal ∨ s.CanReserve c) (hfull : 16 ≤ s.line.outbound.length) (hw : s.NotWaiting c) :
    s.beginRun c kind =
      (.waiting,
        ((s.setClock c
          { s.clock c with waitBegin := some { kind := kind, start := startPosition (s.clock c) kind } }).setPres c
            { s.presOf c with pending := none }).setWaits (s.line.waits ++ [{ who := .clock c, kind := .run }])) := by
  unfold State.beginRun
  dsimp only
  rw [if_neg (by simp [State.supplyOk_of_normal hsupply]), if_neg (State.journalCheck_passes hfree),
    State.offer_of_full s _ hfull rfl]
  exact congrArg (Prod.mk _) (State.joinWait_of_notWaiting _ c .run hw)

theorem State.noReservation_iff :
    s.noReservation c = true ↔ (s.clock c).reserved = false ∧ 8192 ≤ s.values.used + s.values.reserved := by
  simp only [State.noReservation, Bool.and_eq_true, Bool.not_eq_true', State.journalIsFull, decide_eq_true_eq]
  exact Iff.rfl

theorem State.noReservation_eq_false (h : s.CanReserve c) : s.noReservation c = false := by
  rw [← Bool.not_eq_true, State.noReservation_iff]
  rintro ⟨hr, hfull⟩
  rcases h with h | h
  · simp [hr] at h
  · exact Nat.not_le.2 h hfull

theorem State.leadMet_iff : s.leadMet c = true ↔ ∃ a, (s.presOf c).current = some a ∧ (s.clock c).set.lead ≤ a.age := by
  unfold State.leadMet
  cases (s.presOf c).current <;> simp

/-! ## The begins of the commands (R54, R74, R80, R84) -/

theorem State.ready_of_normal {p : Port} (h : s.power.monitor = .normal) (hx : (s.port p).xfer = none) : s.Ready p :=
  ⟨State.isOn_of_normal h, hx⟩

theorem State.ready_of_low {p : Port} (h : s.power.monitor = .low) (hx : (s.port p).xfer = none) : s.Ready p :=
  ⟨State.isOn_of_low h, hx⟩

theorem State.beginBlock_taken {kind : BeginKind} {u : State} (h : s.beginRun c kind = (.taken, u)) :
    s.beginBlock c kind = .ok u [] := by
  unfold State.beginBlock
  rw [h]
  rfl

theorem State.beginBlock_waiting {kind : BeginKind} {u : State} (h : s.beginRun c kind = (.waiting, u)) :
    s.beginBlock c kind = .ok u [] := by
  unfold State.beginBlock
  rw [h]
  rfl

/-- CLOCK_START in LOADED, its supply and journal checks passed (R54, R74). -/
theorem State.clockStartBlock_passed (hc : c < 6) (hq : (s.clock c).state = .loaded) (hs : s.power.monitor = .normal)
    (hr : s.CanReserve c) :
    s.clockStartBlock c =
      if (s.clock c).waitBegin.isSome then .ok s []
      else if s.leadMet c then s.beginBlock c .startCommand
      else s.pendStart c := by
  refine (clockGuard_of_lt hc _).trans ?_
  dsimp only
  rw [if_neg (not_not.2 hq), if_neg (by simp [State.supplyOk_of_normal hs]),
    if_neg (by simp [State.noReservation_eq_false hr])]

theorem State.clockStartBlock_low (hc : c < 6) (hq : (s.clock c).state = .loaded) (hs : s.power.monitor = .low) :
    s.clockStartBlock c = .refuse s .supply :=
  (clockGuard_of_lt hc _).trans ((if_neg (not_not.2 hq)).trans (if_pos (State.supplyOk_of_low hs)))

theorem State.clockStartBlock_full (hc : c < 6) (hq : (s.clock c).state = .loaded) (hs : s.power.monitor = .normal)
    (hr : s.noReservation c = true) : s.clockStartBlock c = .refuse s .journalFull :=
  (clockGuard_of_lt hc _).trans ((if_neg (not_not.2 hq)).trans
    ((if_neg (by simp [State.supplyOk_of_normal hs])).trans (if_pos hr)))

/-- CLOCK_RESUME in PAUSED, its supply and journal checks passed (R80). -/
theorem State.clockResumeBlock_passed (hc : c < 6) (hq : (s.clock c).state = .paused) (hs : s.power.monitor = .normal)
    (hr : s.CanReserve c) :
    s.clockResumeBlock c = if (s.clock c).waitBegin.isSome then .ok s [] else s.beginBlock c .resume := by
  refine (clockGuard_of_lt hc _).trans ?_
  dsimp only
  rw [if_neg (not_not.2 hq), if_neg (by simp [State.supplyOk_of_normal hs]),
    if_neg (by simp [State.noReservation_eq_false hr])]

theorem State.clockResumeBlock_low (hc : c < 6) (hq : (s.clock c).state = .paused) (hs : s.power.monitor = .low) :
    s.clockResumeBlock c = .refuse s .supply :=
  (clockGuard_of_lt hc _).trans ((if_neg (not_not.2 hq)).trans (if_pos (State.supplyOk_of_low hs)))

theorem State.clockResumeBlock_full (hc : c < 6) (hq : (s.clock c).state = .paused) (hs : s.power.monitor = .normal)
    (hr : s.noReservation c = true) : s.clockResumeBlock c = .refuse s .journalFull :=
  (clockGuard_of_lt hc _).trans ((if_neg (not_not.2 hq)).trans
    ((if_neg (by simp [State.supplyOk_of_normal hs])).trans (if_pos hr)))

/-- REHEARSAL_RUN of an IDLE rehearsal clock with no begin waiting (R84). -/
theorem State.rehearsalRunBlock_idle (hc : c < 6) (hm : (s.clock c).rehearsal = true) (hq : (s.clock c).state = .idle)
    (hw : (s.clock c).waitBegin = none) :
    s.rehearsalRunBlock c = if s.supplyOk = false then .refuse s .supply else s.beginBlock c .rehearsal := by
  refine (clockGuard_of_lt hc _).trans ?_
  dsimp only
  rw [if_neg (by simp [hm]), if_neg (by simp [hq, hw])]

/-! ## The begins of the timers (R55, R71, R72) -/

theorem exec_pendingStartDue (hon : s.isOn = true) (h : s.startDue c = true) :
    exec (.pendingStartDue c) s = .next (s.beginPending c) :=
  congrArg _ ((if_pos hon).trans (if_pos h))

theorem exec_restartTimerExpiry (hon : s.isOn = true) (hq : (s.clock c).state = .restartWait)
    (ht : (s.clock c).timer = some 0) (hp : (s.clock c).pausePending = false) :
    exec (.restartTimerExpiry c) s = .next (s.restart c) :=
  congrArg _ ((if_pos ((State.timeUp_iff hon c _).2 ⟨hq, ht⟩)).trans (if_neg (by simp [hp])))

theorem State.beginPending_taken {u : State} (h : s.beginRun c .startPending = (.taken, u)) : s.beginPending c = u := by
  unfold State.beginPending
  rw [h]

theorem State.beginPending_waiting {u : State} (h : s.beginRun c .startPending = (.waiting, u)) :
    s.beginPending c = u := by
  unfold State.beginPending
  rw [h]

theorem State.beginPending_failed (h : s.beginRun c .startPending = (.noSupply, s) ∨
      s.beginRun c .startPending = (.noJournal, s)) :
    s.beginPending c = (s.setPres c { s.presOf c with pending := none }).raise .auc .clockPaused (.number c) := by
  unfold State.beginPending
  rcases h with h | h <;> rw [h] <;> rfl

theorem State.restart_taken {u : State}
    (h : (s.setClock c { s.clock c with timer := none }).beginRun c .restart = (.taken, u)) : s.restart c = u := by
  unfold State.restart
  dsimp only
  rw [h]

theorem State.restart_waiting {u : State}
    (h : (s.setClock c { s.clock c with timer := none }).beginRun c .restart = (.waiting, u)) : s.restart c = u := by
  unfold State.restart
  dsimp only
  rw [h]

/-- A restart that fails leaves the clock PAUSED, with CLOCK_PAUSED to AUC (R72). -/
theorem State.restartFailed_eq (c : Nat) (cause : PauseCause) :
    s.restartFailed c cause =
      (s.setClock c ((s.clock c).pausedAt ((s.clock c).nextStart.getD 0) cause)).raise .auc .clockPaused (.number c) := rfl

theorem State.restartFailed_setClock (c : Nat) (k : Clock) (cause : PauseCause) :
    (s.setClock c k).restartFailed c cause =
      (s.setClock c (k.pausedAt (k.nextStart.getD 0) cause)).raise .auc .clockPaused (.number c) := by
  rw [State.restartFailed_eq, State.setClock_clock_same, State.setClock_setClock]

theorem State.restart_low (h : s.power.monitor = .low) :
    s.restart c = (s.setClock c { s.clock c with timer := none }).restartFailed c .supply := by
  have hfail := State.beginRun_noSupply (s := s.setClock c { s.clock c with timer := none }) h c .restart
  unfold State.restart
  dsimp only
  rw [hfail]

theorem State.restart_full (h : s.power.monitor = .normal) (hr : (s.clock c).reserved = false)
    (hfull : 8192 ≤ s.values.used + s.values.reserved) :
    s.restart c = (s.setClock c { s.clock c with timer := none }).restartFailed c .journal := by
  have hfail := State.beginRun_noJournal (s := s.setClock c { s.clock c with timer := none }) (c := c) (kind := .restart) h
    (by decide) (by rwa [State.setClock_clock_same]) hfull
  unfold State.restart
  dsimp only
  rw [hfail]

/-- The clock's slot comes while a begin waits (R173, log entry 16). -/
theorem State.produce_begin {b : WaitBegin} (hb : (s.clock c).waitBegin = some b) (hh : (s.clock c).waitHalt = none) :
    s.produce (.clock c) = s.beginAgain c b.kind := by
  unfold State.produce
  dsimp only
  rw [hh, hb]

theorem State.beginAgain_taken {kind : BeginKind} {u : State}
    (h : (s.setClock c { s.clock c with waitBegin := none }).beginRun c kind = (.taken, u)) : s.beginAgain c kind = u := by
  unfold State.beginAgain
  dsimp only
  rw [h]

/-- A begin made again that fails is handled by its kind (R72, R73, log entry 16). -/
theorem State.beginAgain_failed {kind : BeginKind} {o : BeginOutcome} {cause : PauseCause}
    (h : (s.setClock c { s.clock c with waitBegin := none }).beginRun c kind =
      (o, s.setClock c { s.clock c with waitBegin := none }))
    (ho : o = .noSupply ∧ cause = .supply ∨ o = .noJournal ∧ cause = .journal) :
    s.beginAgain c kind =
      match (generalizing := false) kind with
      | .startCommand | .resume | .rehearsal => s.setClock c { s.clock c with waitBegin := none }
      | .startPending =>
        (s.setClock c { s.clock c with waitBegin := none }).raise .auc .clockPaused (.number c)
      | .restart =>
        (s.setClock c (Clock.pausedAt { s.clock c with waitBegin := none } ((s.clock c).nextStart.getD 0) cause)).raise .auc
          .clockPaused (.number c) := by
  unfold State.beginAgain
  dsimp only
  rw [h]
  rcases ho with ⟨rfl, rfl⟩ | ⟨rfl, rfl⟩ <;> cases kind <;>
    first | rfl | exact State.restartFailed_setClock ..

end Sys2Proof.Machine

namespace Sys2Proof.Proofs

open Machine

/-- Settles O27: each cause of a begin comes down to one begin that is taken. -/
theorem runsBegin : Obligations.RunsBegin := by
  intro s t c hc hsupply hroom k
  have hon := State.isOn_of_normal hsupply
  refine ⟨fun l r hl hr hres => ⟨fun hq hw hx hlead => ?_, fun n hq hw hn hx => ?_, fun hdue => ?_,
    fun n hq ht hp hn => ?_⟩, fun hm hq hw hx => ?_⟩
  · obtain ⟨u, hu, hbegun⟩ := State.beginRun_taken .startCommand hsupply hroom (.inr hres)
      (State.pricesFor_lot (by decide) hl hr)
    refine ⟨u, exec_ok (State.ready_of_normal hsupply hx) rfl rfl rfl
      ((State.clockStartBlock_passed hc hq hsupply hres).trans ?_), hbegun⟩
    rw [if_neg (by rw [show (s.clock c).waitBegin = none from hw]; decide), if_pos (State.leadMet_iff.2 hlead)]
    exact State.beginBlock_taken hu
  · obtain ⟨u, hu, hbegun⟩ := State.beginRun_taken .resume hsupply hroom (.inr hres)
      (State.pricesFor_lot (by decide) hl hr)
    have hstart : startPosition (s.clock c) .resume = n := by
      unfold startPosition
      rw [show (s.clock c).nextStart = some n from hn]
      rfl
    rw [hstart] at hbegun
    refine ⟨u, exec_ok (State.ready_of_normal hsupply hx) rfl rfl rfl
      ((State.clockResumeBlock_passed hc hq hsupply hres).trans ?_), hbegun⟩
    rw [if_neg (by rw [show (s.clock c).waitBegin = none from hw]; decide)]
    exact State.beginBlock_taken hu
  · obtain ⟨u, hu, hbegun⟩ := State.beginRun_taken .startPending hsupply hroom (.inr hres)
      (State.pricesFor_lot (by decide) hl hr)
    exact ⟨u, (exec_pendingStartDue hon hdue).trans (congrArg _ (State.beginPending_taken hu)), hbegun⟩
  · have hc' := State.setClock_clock_same s c { s.clock c with timer := none }
    obtain ⟨u, hu, hbegun⟩ := State.beginRun_taken (s := s.setClock c { s.clock c with timer := none }) (c := c) .restart
      hsupply hroom (.inr (hres.imp (fun h => by rw [hc']; exact h) id))
      (State.pricesFor_lot (l := l) (r := r) (by decide) (by rw [hc']; exact hl) hr)
    refine ⟨u, (exec_restartTimerExpiry hon hq ht hp).trans (congrArg _ (State.restart_taken hu)), ?_⟩
    have hstart : startPosition ((s.setClock c { s.clock c with timer := none }).clock c) .restart = n := by
      rw [hc']
      unfold startPosition
      dsimp only
      rw [show (s.clock c).nextStart = some n from hn]
      rfl
    rw [hstart, hc'] at hbegun
    exact RunBegun.of_setClock (timer := none) (begin' := (s.clock c).waitBegin) hbegun
  · obtain ⟨u, hu, hbegun⟩ := State.beginRun_taken (s := s) (c := c) .rehearsal hsupply hroom (.inl rfl) rfl
    refine ⟨u, exec_ok (State.ready_of_normal hsupply hx) rfl rfl rfl
      ((State.rehearsalRunBlock_idle hc hm hq hw).trans ?_), hbegun⟩
    rw [if_neg (by simp [State.supplyOk_of_normal hsupply])]
    exact State.beginBlock_taken hu

end Sys2Proof.Proofs
end

section
/-! Begins that fail, wait for their lead or wait for their place (R54, R55, R71 to R73, R173). -/

namespace Sys2Proof.Machine

set_option Elab.async false

variable {s : State} {t c : Nat}

/-- A clock with a free slot in the wait list is one whose begin can be made again: clearing its waiting begin changes
none of the begin's checks. -/
theorem State.canReserve_setClock {k : Clock} (hk : k.reserved = (s.clock c).reserved) (h : s.CanReserve c) :
    (s.setClock c k).CanReserve c :=
  h.imp (fun hr => by rw [State.setClock_clock_same, hk]; exact hr) id

/-- A begin waits on a clock whose timer has been stopped, too (R73). -/
theorem State.restart_held {n : Nat} (hsupply : s.power.monitor = .normal) (hres : s.CanReserve c)
    (hfull : 16 ≤ s.line.outbound.length) (hw : s.NotWaiting c) (hn : (s.clock c).nextStart = some n) :
    let x := s.setClock c { s.clock c with timer := none }
    s.restart c =
      ((x.setClock c { x.clock c with waitBegin := some { kind := .restart, start := n } }).setPres c
        { s.presOf c with pending := none }).setWaits (s.line.waits ++ [{ who := .clock c, kind := .run }]) := by
  intro x
  have hstart : startPosition (x.clock c) .restart = n := by
    rw [show x.clock c = _ from State.setClock_clock_same s c _]
    unfold startPosition
    dsimp only
    rw [hn]
    rfl
  have hwaits := State.beginRun_waiting (s := x) (kind := .restart) hsupply
    (.inr (State.canReserve_setClock rfl hres)) hfull hw
  rw [hstart] at hwaits
  exact State.restart_waiting hwaits

/-- CLOCK_START with its lead unmet makes a MANUAL pending start (R54). -/
theorem State.pendStart_of_current {a : Announce} (ha : (s.presOf c).current = some a) :
    s.pendStart c =
      .ok (s.setPres c { s.presOf c with pending := some .manual }) ([1#8] ++ u4 ((s.clock c).set.lead - a.age)) := by
  unfold State.pendStart
  refine congrArg (Answer.ok _) ?_
  unfold State.leadLeft
  rw [ha]
  rfl

/-- A begin that waits is made again from its first check when its place comes (R73, R173, log entry 16). -/
theorem State.produce_begun {b : WaitBegin} {price reserve start : Nat} (hb : (s.clock c).waitBegin = some b)
    (hh : (s.clock c).waitHalt = none) (hsupply : s.power.monitor = .normal) (hroom : s.line.outbound.length < 16)
    (hfree : b.kind = .rehearsal ∨ s.CanReserve c) (hprices : s.pricesFor (s.clock c) b.kind = (price, reserve))
    (hstart : startPosition (s.clock c) b.kind = start) :
    RunBegun s (s.produce (.clock c)) c price reserve start (b.kind == .rehearsal) := by
  have hc := State.setClock_clock_same s c { s.clock c with waitBegin := none }
  obtain ⟨u, hu, hbegun⟩ := State.beginRun_taken (s := s.setClock c { s.clock c with waitBegin := none }) (c := c) b.kind
    hsupply hroom (hfree.imp id (State.canReserve_setClock rfl)) (price := price) (reserve := reserve)
    (by rw [hc]; exact hprices)
  rw [hc, show startPosition { s.clock c with waitBegin := none } b.kind = start by
    rw [← hstart]; cases b.kind <;> rfl] at hbegun
  rw [State.produce_begin hb hh, State.beginAgain_taken hu]
  exact RunBegun.of_setClock (timer := (s.clock c).timer) (begin' := none) hbegun

/-- A waiting begin whose checks fail when its place comes is handled by its kind (R72, R73, log entry 16). -/
theorem State.produce_failed {b : WaitBegin} (hb : (s.clock c).waitBegin = some b) (hh : (s.clock c).waitHalt = none)
    (h : s.power.monitor = .low ∨
      s.power.monitor = .normal ∧ b.kind ≠ .rehearsal ∧
        (s.clock c).reserved = false ∧ 8192 ≤ s.values.used + s.values.reserved) :
    s.produce (.clock c) =
      match b.kind with
      | .startCommand | .resume | .rehearsal => s.setClock c { s.clock c with waitBegin := none }
      | .startPending => (s.setClock c { s.clock c with waitBegin := none }).raise .auc .clockPaused (.number c)
      | .restart =>
        (s.setClock c (Clock.pausedAt { s.clock c with waitBegin := none } ((s.clock c).nextStart.getD 0)
          (if s.power.monitor = .low then PauseCause.supply else .journal))).raise .auc .clockPaused (.number c) := by
  rw [State.produce_begin hb hh]
  rcases h with h | ⟨h, hk, hr, hfull⟩
  · rw [if_pos h]
    exact State.beginAgain_failed (State.beginRun_noSupply (s := s.setClock c { s.clock c with waitBegin := none }) h c
      b.kind) (.inl ⟨rfl, rfl⟩)
  · rw [if_neg (by rw [h]; decide)]
    exact State.beginAgain_failed (State.beginRun_noJournal (s := s.setClock c { s.clock c with waitBegin := none }) h hk
      (by rwa [State.setClock_clock_same]) hfull) (.inr ⟨rfl, rfl⟩)

theorem startPosition_eq (k : Clock) (kind : BeginKind) :
    startPosition k kind = if kind = .restart ∨ kind = .resume then k.nextStart.getD 0 else 0 := by
  cases kind <;> rfl

end Sys2Proof.Machine

namespace Sys2Proof.Proofs

open Machine

/-- Settles O28: the outcomes of a begin, read for each of its causes. -/
theorem beginsThatMayNotBeginYet : Obligations.BeginsThatMayNotBeginYet := by
  intro s t c hc k full held
  refine ⟨fun hx hlow => ⟨fun hq => ?_, fun hq => ?_, fun hm hq hw => ?_⟩,
    fun hx hsupply hfull => ⟨fun hq => ?_, fun hq => ?_⟩, fun hfail hdue => ?_,
    fun n hq ht hp hn => ⟨fun hlow => ?_, fun hsupply hfull => ?_⟩,
    fun a hsupply hx hq hw hres ha hage => ?_,
    fun hsupply hfull hwait hw => ⟨fun hres => ⟨fun hx hq hlead => ?_, fun n hx hq hn => ?_, fun hdue => ?_,
      fun n hq ht hp hn => ?_⟩, fun hx hm hq => ?_⟩,
    fun b hb => ⟨fun hsupply hres hx => ⟨fun hq => ?_, fun hq => ?_⟩, fun hm hx hon => ?_, fun hh => ?_⟩⟩
  · exact exec_refuse (State.ready_of_low hlow hx) rfl rfl rfl (State.clockStartBlock_low hc hq hlow)
  · exact exec_refuse (State.ready_of_low hlow hx) rfl rfl rfl (State.clockResumeBlock_low hc hq hlow)
  · exact exec_refuse (State.ready_of_low hlow hx) rfl rfl rfl
      ((State.rehearsalRunBlock_idle hc hm hq hw).trans (if_pos (State.supplyOk_of_low hlow)))
  · exact exec_refuse (State.ready_of_normal hsupply hx) rfl rfl rfl
      (State.clockStartBlock_full hc hq hsupply (State.noReservation_iff.2 hfull))
  · exact exec_refuse (State.ready_of_normal hsupply hx) rfl rfl rfl
      (State.clockResumeBlock_full hc hq hsupply (State.noReservation_iff.2 hfull))
  · have hon : s.isOn = true :=
      hfail.elim State.isOn_of_low fun h => State.isOn_of_normal h.1
    exact (exec_pendingStartDue hon hdue).trans (congrArg _ (State.beginPending_failed
      (hfail.imp (fun h => State.beginRun_noSupply h c _)
        fun ⟨h, hr, hf⟩ => State.beginRun_noJournal h (by decide) hr hf)))
  · exact (exec_restartTimerExpiry (State.isOn_of_low hlow) hq ht hp).trans
      (congrArg _ ((State.restart_low hlow).trans ((State.restartFailed_setClock c _ _).trans (by
        dsimp only
        rw [show (s.clock c).nextStart = some n from hn]
        rfl))))
  · exact (exec_restartTimerExpiry (State.isOn_of_normal hsupply) hq ht hp).trans
      (congrArg _ ((State.restart_full hsupply hfull.1 hfull.2).trans ((State.restartFailed_setClock c _ _).trans (by
        dsimp only
        rw [show (s.clock c).nextStart = some n from hn]
        rfl))))
  · refine exec_ok (State.ready_of_normal hsupply hx) rfl rfl rfl
      ((State.clockStartBlock_passed hc hq hsupply hres).trans ?_)
    have hlead : ¬s.leadMet c = true := by
      rw [State.leadMet_iff]
      rintro ⟨x, hx', hle⟩
      cases ha.symm.trans hx'
      exact Nat.not_le.2 hage hle
    rw [if_neg (by rw [show (s.clock c).waitBegin = none from hw]; decide), if_neg hlead]
    exact State.pendStart_of_current ha
  · refine exec_ok (State.ready_of_normal hsupply hx) rfl rfl rfl
      ((State.clockStartBlock_passed hc hq hsupply hres).trans ?_)
    rw [if_neg (by rw [show (s.clock c).waitBegin = none from hw]; decide), if_pos (State.leadMet_iff.2 hlead)]
    exact State.beginBlock_waiting (State.beginRun_waiting hsupply (.inr hres) hfull hwait)
  · refine exec_ok (State.ready_of_normal hsupply hx) rfl rfl rfl
      ((State.clockResumeBlock_passed hc hq hsupply hres).trans ?_)
    rw [if_neg (by rw [show (s.clock c).waitBegin = none from hw]; decide)]
    have hwaits := State.beginRun_waiting (kind := .resume) hsupply (.inr hres) hfull hwait
    rw [show startPosition (s.clock c) .resume = n from congrArg (Option.getD · 0) hn] at hwaits
    exact State.beginBlock_waiting hwaits
  · exact (exec_pendingStartDue (State.isOn_of_normal hsupply) hdue).trans (congrArg _
      (State.beginPending_waiting (State.beginRun_waiting hsupply (.inr hres) hfull hwait)))
  · exact (exec_restartTimerExpiry (State.isOn_of_normal hsupply) hq ht hp).trans
      (congrArg _ (State.restart_held hsupply hres hfull hwait hn))
  · refine exec_ok (State.ready_of_normal hsupply hx) rfl rfl rfl
      ((State.rehearsalRunBlock_idle hc hm hq hw).trans ?_)
    rw [if_neg (by simp [State.supplyOk_of_normal hsupply])]
    exact State.beginBlock_waiting (State.beginRun_waiting hsupply (.inl rfl) hfull hwait)
  · exact exec_ok (State.ready_of_normal hsupply hx) rfl rfl rfl
      ((State.clockStartBlock_passed hc hq hsupply hres).trans (if_pos (congrArg Option.isSome hb)))
  · exact exec_ok (State.ready_of_normal hsupply hx) rfl rfl rfl
      ((State.clockResumeBlock_passed hc hq hsupply hres).trans (if_pos (congrArg Option.isSome hb)))
  · exact exec_refuse ⟨hon, hx⟩ rfl rfl rfl ((clockGuard_of_lt hc _).trans
      ((if_neg (by simp [show (s.clock c).rehearsal = true from hm])).trans (if_pos (.inr (congrArg Option.isSome hb)))))
  · intro begun dropped start
    have hstart : startPosition (s.clock c) b.kind = start := startPosition_eq _ _
    refine ⟨fun l r hk hl hr hsupply hres hroom => ?_, fun hk hsupply hroom => ?_, fun hfail => ?_⟩
    · have h := State.produce_begun hb hh hsupply hroom (.inr hres) (State.pricesFor_lot hk hl hr) hstart
      rwa [show (b.kind == .rehearsal) = false by simpa using hk] at h
    · have h := State.produce_begun hb hh hsupply hroom (.inl hk) (by rw [hk]) hstart
      rwa [show (b.kind == .rehearsal) = true by simpa using hk,
        show start = 0 from if_neg (by rw [hk]; decide)] at h
    · exact State.produce_failed hb hh hfail

end Sys2Proof.Proofs
end

section
/-! CLOCK_PAUSE by the clock's state (R73, R77 to R79). -/

namespace Sys2Proof.Machine

set_option Elab.async false

variable {s : State} {t c : Nat}

/-! ## Frames that are placed -/

/-- The placing of a frame changes the outbound queue and announce records alone (R51, R172). -/
theorem State.placed_frame {f : OutFrame} {v : State} (h : s.Placed f v) :
    ∃ q p, v = { s with line := { s.line with outbound := q }, pres := p } := by
  obtain ⟨-, rfl⟩ | ⟨-, before, x, behind, d, l, -, -, -, -, rfl⟩ := h
  · exact ⟨_, s.pres, rfl⟩
  · obtain ⟨p, hp⟩ := State.displaced_frame (s := s.setOutbound (before ++ behind ++ [{ frame := f, sent := 0 }])) d l
    exact ⟨_, p, hp⟩

theorem State.placed_clock {f : OutFrame} {v : State} (h : s.Placed f v) (d : Nat) : v.clock d = s.clock d := by
  obtain ⟨q, p, rfl⟩ := State.placed_frame h
  rfl

/-! ## Pause-pending and the waiting begin (R73, R79) -/

theorem State.setPausePending_eq (c : Nat) (cause : PauseCause) :
    s.setPausePending c cause =
      if (s.clock c).pausePending then s else s.setClock c ((s.clock c).pausing cause) := by
  unfold State.setPausePending Clock.pausing
  dsimp only
  split
  · rfl
  · rfl

/-- A waiting begin is dropped: the clock and the wait list (R73). -/
theorem State.dropBegin_of_waiting (h : (s.clock c).waitBegin ≠ none) :
    s.dropBegin c =
      (s.setClock c { s.clock c with waitBegin := none }).setWaits
        (s.line.waits.filter fun e => e.who ≠ .clock c) := by
  obtain ⟨b, hb⟩ := Option.ne_none_iff_exists'.1 h
  unfold State.dropBegin
  dsimp only
  rw [hb]
  rfl

theorem State.dropBegin_of_none (h : (s.clock c).waitBegin = none) : s.dropBegin c = s := by
  unfold State.dropBegin
  dsimp only
  rw [h]

theorem State.dropBegin_presOf (c d : Nat) : (s.dropBegin c).presOf d = s.presOf d := by
  unfold State.dropBegin
  dsimp only
  split <;> rfl

/-- A pause taken on a clock that runs a lot (R78). -/
theorem State.takePause_lot {v : State} {n : Nat} (hk : v.clock c = s.clock c) (hr : (s.clock c).rehearsalRun = false)
    (hp : (s.clock c).position = some n) (cause : PauseCause) (told : Bool) :
    v.takePause c cause told =
      if told then (v.setClock c ((s.clock c).pausedAt n cause)).raise .auc .clockPaused (.number c)
      else v.setClock c ((s.clock c).pausedAt n cause) := by
  unfold State.takePause State.pauseAt
  dsimp only
  rw [hk, if_neg (by simp [hr]), show (s.clock c).position.getD 0 = n from congrArg (Option.getD · 0) hp]
  rfl

/-! ## CLOCK_PAUSE (R78) -/

theorem State.pauseClock_running (hq : (s.clock c).state = .running) :
    s.pauseClock c = some ((s.pauseRunning c .auctioneer).judgeClocks none) := by
  unfold State.pauseClock
  dsimp only
  rw [hq]

theorem State.pauseClock_loaded (hq : (s.clock c).state = .loaded) :
    s.pauseClock c = some ((s.dropBegin c).setPres c { s.presOf c with pending := none }) := by
  unfold State.pauseClock
  dsimp only
  rw [hq, State.dropBegin_presOf]

theorem State.pauseClock_restartWait (hq : (s.clock c).state = .restartWait) (hw : (s.clock c).waitBegin ≠ none) :
    s.pauseClock c =
      some ((s.dropBegin c).setClock c
        (Clock.pausedAt { s.clock c with waitBegin := none } ((s.clock c).nextStart.getD 0) .auctioneer)) := by
  unfold State.pauseClock State.pauseAt
  dsimp only
  rw [hq, State.dropBegin_clock]
  exact if_pos (Option.isSome_iff_ne_none.2 hw)

theorem exec_clockPause (hs : s.Ready .auc) (hc : c < 6) {u : State} (h : s.pauseClock c = some u) :
    exec (.clockPause .auc t c) s = .next (u.putReply .auc t .ok []) := by
  refine exec_ok hs rfl rfl rfl ((clockGuard_of_lt hc _).trans ?_)
  rw [h]

theorem State.pauseRunning_placed {n : Nat} {v : State} (hw : (s.clock c).waitHalt = none)
    (hp : (s.clock c).position = some n) (hv : s.HaltPlaced c .pause n v) (cause : PauseCause) :
    s.pauseRunning c cause = v.takePause c cause (cause == .supply) := by
  unfold State.pauseRunning
  dsimp only
  rw [hw, s.offerHalt_of_placed hv hp]

theorem State.pauseRunning_noPlace {n : Nat} (hw : (s.clock c).waitHalt = none) (hp : (s.clock c).position = some n)
    (hno : s.NoPlace) (hwait : s.NotWaiting c) (cause : PauseCause) :
    s.pauseRunning c cause =
      (s.setClock c
        { s.clock c with
          waitHalt := some { reason := .pause, position := n, cause := some cause, candidate := none, replaced := none }
          timer := none }).setWaits (s.line.waits ++ [{ who := .clock c, kind := .halt }]) := by
  unfold State.pauseRunning State.offerHalt
  dsimp only
  rw [hw, s.offer_of_noPlace _ hno, show (s.clock c).position.getD 0 = n from congrArg (Option.getD · 0) hp]
  exact State.joinWait_of_notWaiting _ c .halt hwait

theorem State.pauseRunning_waiting {w : WaitHalt} (hw : (s.clock c).waitHalt = some w) (hr : w.reason ≠ .stop)
    (cause : PauseCause) : s.pauseRunning c cause = s := by
  unfold State.pauseRunning
  dsimp only
  rw [hw]
  dsimp only
  split
  · rfl
  · rfl
  · next h => exact absurd h hr

theorem State.pauseRunning_stop {w : WaitHalt} (hw : (s.clock c).waitHalt = some w) (hr : w.reason = .stop)
    (hm : (s.clock c).rehearsalRun = false) (cause : PauseCause) :
    s.pauseRunning c cause = s.setPausePending c cause := by
  unfold State.pauseRunning
  dsimp only
  rw [hw]
  dsimp only
  rw [hr]
  exact if_neg (by simp [hm])

/-- The slot of a pause that waited comes (R77, R81). -/
theorem State.produce_pause {n : Nat} {w : WaitHalt} {q : PauseCause} (hw : (s.clock c).waitHalt = some w)
    (hr : w.reason = .pause) (hq : w.cause = some q) (hp : (s.clock c).position = some n)
    (hroom : s.line.outbound.length < 16) :
    s.produce (.clock c) = (s.haltSent c .pause n).takePause c q (q == .supply) := by
  unfold State.produce
  dsimp only
  rw [hw]
  dsimp only
  unfold State.grantHalt
  rw [hr]
  dsimp only
  rw [hq, s.offerHalt_of_room c n .pause hroom hp]
  rfl

end Sys2Proof.Machine

namespace Sys2Proof.Proofs

open Machine

/-- Settles O29: CLOCK_PAUSE, state by state. -/
theorem clockPauseActsByTheState : Obligations.ClockPauseActsByTheState := by
  constructor
  on_goal 2 =>
    intro s c n w q k hw hr hcause hp hm hroom
    refine (State.produce_pause hw hr hcause hp hroom).trans ((State.takePause_lot (s := s)
      (v := s.haltSent c .pause n) rfl hm hp q _).trans ?_)
    cases q <;> rfl
  intro s t c hs hc k paused left
  refine ⟨fun hq hw => ?_, fun hq hw => ?_, fun hq => ?_, fun hq => ?_,
    fun hw => ⟨fun hq => ?_, fun hq => ?_, fun hq => ?_⟩,
    fun n hq hm hw hp => ⟨fun v hv => ?_, fun hno hwait => ?_⟩, fun w hq hm hw => ⟨fun hr => ?_, fun hr => ?_⟩⟩
  · refine exec_refuse hs rfl rfl rfl ((clockGuard_of_lt hc _).trans ?_)
    rw [show s.pauseClock c = none by
      unfold State.pauseClock
      dsimp only
      rw [show (s.clock c).state = .idle from hq, show (s.clock c).waitBegin = none from hw]
      rfl]
  · refine exec_clockPause hs hc ?_
    unfold State.pauseClock
    dsimp only
    rw [show (s.clock c).state = .loaded from hq, State.dropBegin_of_none hw]
  · refine exec_clockPause hs hc ?_
    unfold State.pauseClock
    dsimp only
    rcases hq with ⟨hq, hw⟩ | ⟨hq, hm⟩
    · rw [show (s.clock c).state = .paused from hq, State.dropBegin_of_none hw]
    · rw [show (s.clock c).state = .settling from hq]
      exact congrArg some (if_pos hm)
  · refine exec_clockPause hs hc ?_
    unfold State.pauseClock
    dsimp only
    rw [← State.setPausePending_eq]
    rcases hq with ⟨hq, hm⟩ | hq | ⟨hq, hw⟩
    · rw [show (s.clock c).state = .settling from hq]
      exact congrArg some (if_neg (by simp [show (s.clock c).rehearsalRun = false from hm]))
    · rw [show (s.clock c).state = .held from hq]
    · rw [show (s.clock c).state = .restartWait from hq]
      exact if_neg (by simp [show (s.clock c).waitBegin = none from hw])
  · refine exec_clockPause hs hc ?_
    unfold State.pauseClock
    dsimp only
    rw [← State.dropBegin_of_waiting hw]
    rcases hq with hq | hq
    · rw [show (s.clock c).state = .idle from hq]
      exact if_pos (Option.isSome_iff_ne_none.2 hw)
    · rw [show (s.clock c).state = .paused from hq]
  · refine exec_clockPause hs hc ((State.pauseClock_loaded hq).trans ?_)
    rw [State.dropBegin_of_waiting hw]
  · refine exec_clockPause hs hc ((State.pauseClock_restartWait hq hw).trans ?_)
    rw [State.dropBegin_of_waiting hw]
    exact congrArg (fun u => some (State.setWaits u left)) (State.setClock_setClock ..)
  · refine exec_clockPause hs hc ((State.pauseClock_running hq).trans (congrArg (fun u => some (State.judgeClocks u none)) ?_))
    exact (State.pauseRunning_placed hw hp hv _).trans (State.takePause_lot (State.placed_clock hv c) hm hp _ _)
  · exact exec_clockPause hs hc ((State.pauseClock_running hq).trans (congrArg (fun u => some (State.judgeClocks u none))
      (State.pauseRunning_noPlace hw hp hno hwait _)))
  · exact exec_clockPause hs hc ((State.pauseClock_running hq).trans (congrArg (fun u => some (State.judgeClocks u none))
      (State.pauseRunning_waiting hw hr _)))
  · exact exec_clockPause hs hc ((State.pauseClock_running hq).trans (congrArg (fun u => some (State.judgeClocks u none))
      ((State.pauseRunning_stop hw hr hm _).trans (State.setPausePending_eq c _))))

end Sys2Proof.Proofs
end

section
/-! CLOCK_SKIP (R82, R7, R57, R68). -/

namespace Sys2Proof.Machine

set_option Elab.async false

variable {s : State} {t c : Nat}

/-! ## Reservations given up, begins dropped, lots let go -/

theorem State.giveUpReservation_others {d : Nat} (h : d ≠ c) : (s.giveUpReservation c).clock d = s.clock d := by
  unfold State.giveUpReservation
  dsimp only
  split
  · exact (State.setClock_clock _ c d _).trans (if_neg h)
  · rfl

theorem State.giveUpReservation_allValues (c : Nat) :
    (s.giveUpReservation c).values =
      { s.values with reserved := s.values.reserved - if (s.clock c).reserved then 1 else 0 } := by
  unfold State.giveUpReservation
  dsimp only
  cases (s.clock c).reserved <;> rfl

theorem State.giveUpReservation_places (c : Nat) : (s.giveUpReservation c).journal.places = s.journal.places := by
  unfold State.giveUpReservation
  dsimp only
  split <;> rfl

theorem State.dropBegin_frame (c : Nat) :
    ∃ k w, s.dropBegin c = { s with clocks := k, line := { s.line with waits := w } } := by
  unfold State.dropBegin
  dsimp only
  split <;> exact ⟨_, _, rfl⟩

theorem State.dropBegin_others {d : Nat} (h : d ≠ c) : (s.dropBegin c).clock d = s.clock d := by
  unfold State.dropBegin
  dsimp only
  split
  · rfl
  · exact (State.setClock_clock s c d _).trans (if_neg h)

theorem State.letGo_frame (c : Nat) : ∃ k p, s.letGo c = { s with clocks := k, pres := p } := ⟨_, _, rfl⟩

/-- A clock that lets go of its lot is IDLE (R68). -/
theorem State.letGo_clock (c : Nat) : (s.letGo c).clock c = (s.clock c).released := State.setClock_clock_same s c _

theorem State.letGo_others {d : Nat} (h : d ≠ c) : (s.letGo c).clock d = s.clock d :=
  (State.setClock_clock s c d _).trans (if_neg h)

/-- The let-go age starts, and the loaded lot's announce record and pending start are gone (R57). -/
theorem State.letGo_presOf (c : Nat) :
    (s.letGo c).presOf c =
      { s.presOf c with current := none, unrun := false, pending := none, letGo := some 0 } :=
  State.setPres_presOf_same _ c _

/-- The report of a closure changes which train presents, and nothing else of a presentation record (R42, R48). -/
theorem State.reportClosure_presOf (n : Option Nat) (d : Nat) :
    ∃ x, (s.reportClosure n).presOf d = { s.presOf d with train := x } := by
  unfold State.reportClosure
  split
  · exact ⟨_, rfl⟩
  · split
    · rw [State.clearTrain_eq]
      dsimp only
      split
      · exact ⟨_, by rw [State.raise_presOf]; rfl⟩
      · next c hc =>
        split
        · rw [State.setPres_presOf]
          split
          · next hd => exact ⟨none, by rw [hd]⟩
          · exact ⟨_, by rw [State.raise_presOf]; rfl⟩
        · exact ⟨_, by rw [State.raise_presOf]; rfl⟩
    · exact ⟨_, rfl⟩

/-- A lot that is closed: its cell, the train of its report, and nothing of the clocks or the journal (R7, R8). -/
theorem State.closeLot_frame {l : Nat} {r : LotRec} (w : CloseWay) (h : s.lot l = some r) :
    ∃ y p o,
      s.closeLot l w =
        { s with
          lots := (s.setLot l (some { r with state := closedState w r, clock := none })).lots
          yard := { s.yard with trains := y }, pres := p, ports := o } := by
  rw [State.closeLot_eq w h]
  obtain ⟨y, p, o, hf⟩ := State.reportClosure_frame
    (s := s.setLot l (some { r with state := closedState w r, clock := none })) r.train
  exact ⟨y, p, o, hf⟩

theorem State.closeLot_presOf {l : Nat} {r : LotRec} (w : CloseWay) (h : s.lot l = some r) (d : Nat) :
    ∃ x, (s.closeLot l w).presOf d = { s.presOf d with train := x } := by
  rw [State.closeLot_eq w h]
  exact State.reportClosure_presOf r.train d

/-! ## The skip (R82) -/

/-- The part after a skip, before the presentation unit acts. -/
def State.skipped (s : State) (c l : Nat) : State :=
  let u := (((s.closeLot l .skip).giveUpReservation c).dropBegin c).letGo c
  u.setClock c { u.clock c with cause := none, pausePending := false }

theorem State.skip_eq (c l : Nat) : s.skip c l = (s.skipped c l).settle := rfl

theorem State.skipped_frame {l : Nat} {r : LotRec} (c : Nat) (h : s.lot l = some r) :
    ∃ y p o j k w,
      s.skipped c l =
        { s with
          lots := (s.setLot l (some { r with state := closedState .skip r, clock := none })).lots
          yard := { s.yard with trains := y }, pres := p, ports := o, journal := j, clocks := k
          line := { s.line with waits := w } } ∧
      j = (s.giveUpReservation c).journal := by
  obtain ⟨y, p, o, h1⟩ := State.closeLot_frame .skip h
  obtain ⟨j, k, h2⟩ := (s.closeLot l .skip).giveUpReservation_frame c
  obtain ⟨k', w, h3⟩ := State.dropBegin_frame (s := (s.closeLot l .skip).giveUpReservation c) c
  obtain ⟨k'', p', h4⟩ := State.letGo_frame (s := ((s.closeLot l .skip).giveUpReservation c).dropBegin c) c
  refine ⟨y, p', o, j, (s.skipped c l).clocks, w, ?_, ?_⟩
  · change { (((s.closeLot l .skip).giveUpReservation c).dropBegin c).letGo c with clocks := (s.skipped c l).clocks } = _
    rw [h4, h3, h2, h1]
  · have hj := congrArg State.journal h2
    rw [← show ((s.closeLot l .skip).giveUpReservation c).journal = j from hj, h1]
    unfold State.giveUpReservation
    dsimp only
    change (if (s.clock c).reserved = true then _ else _ : State).journal = _
    split <;> rfl

theorem State.skipped_clock {l : Nat} {r : LotRec} (c : Nat) (h : s.lot l = some r) :
    (s.skipped c l).clock c =
      { (s.clock c).released with waitBegin := none, cause := none, pausePending := false, reserved := false } := by
  obtain ⟨y, p, o, h1⟩ := State.closeLot_frame .skip h
  have hk : (s.closeLot l .skip).clock c = s.clock c := by rw [h1]; rfl
  refine (State.setClock_clock_same _ c _).trans ?_
  rw [State.letGo_clock, State.dropBegin_clock, State.giveUpReservation_clock, hk]
  rfl

theorem State.skipped_others {l d : Nat} {r : LotRec} (hd : d ≠ c) (h : s.lot l = some r) :
    (s.skipped c l).clock d = s.clock d := by
  obtain ⟨y, p, o, h1⟩ := State.closeLot_frame .skip h
  have hk : (s.closeLot l .skip).clock d = s.clock d := by rw [h1]; rfl
  refine (State.setClock_clock _ c d _).trans ((if_neg hd).trans ?_)
  rw [State.letGo_others hd, State.dropBegin_others hd, State.giveUpReservation_others hd, hk]

theorem State.skipped_presOf {l : Nat} {r : LotRec} (c : Nat) (h : s.lot l = some r) :
    ∃ x,
      (s.skipped c l).presOf c =
        { s.presOf c with train := x, current := none, unrun := false, pending := none, letGo := some 0 } := by
  obtain ⟨x, hx⟩ := State.closeLot_presOf .skip h c
  obtain ⟨j, k, h2⟩ := (s.closeLot l .skip).giveUpReservation_frame c
  refine ⟨x, ?_⟩
  unfold State.skipped
  dsimp only
  rw [State.setClock_presOf, State.letGo_presOf, State.dropBegin_presOf, show ((s.closeLot l .skip).giveUpReservation c).presOf c = (s.closeLot l .skip).presOf c by
    rw [h2]; rfl, hx]

theorem closedState_skip (r : LotRec) : closedState .skip r = if r.purchases = [] then .withdrawn else .partSold := by
  unfold closedState
  cases r.purchases <;> rfl

theorem State.closedReply_skip {l : Nat} {r : LotRec} (h : s.lot l = some r) :
    (s.closeLot l .skip).closedReply l = [if r.purchases = [] then 9#8 else 7#8] := by
  unfold State.closedReply
  rw [State.closeLot_lot .skip h, closedState_skip]
  split <;> rfl

end Sys2Proof.Machine

namespace Sys2Proof.Proofs

open Machine

/-- Settles O30: the state that the skip leaves before the presentation unit acts. -/
theorem clockSkipClosesTheLot : Obligations.ClockSkipClosesTheLot := by
  refine ⟨fun s t c hs hc hl hp => ?_, fun s t c l r hs hc hq hl hr => ⟨s.skipped c l, ?_, ?_⟩⟩
  · exact exec_refuse hs rfl rfl rfl ((clockGuard_of_lt hc _).trans (if_neg (not_or.2 ⟨hl, hp⟩)))
  · refine exec_ok hs rfl rfl rfl ((clockGuard_of_lt hc _).trans ((if_pos hq).trans ?_))
    rw [hl]
    dsimp only
    rw [State.closedReply_skip hr]
    rfl
  · obtain ⟨x, hx⟩ := State.skipped_presOf c hr
    have hclock := State.skipped_clock c hr
    have hothers := fun d (hd : d ≠ c) => State.skipped_others hd hr
    obtain ⟨y, p, o, j, k, w, hf, hj⟩ := State.skipped_frame c hr
    generalize s.skipped c l = u at hx hclock hothers hf ⊢
    refine ⟨?_, hclock, hothers, ?_, by rw [hx], by rw [hx], by rw [hx], by rw [hx], by rw [hx], ?_⟩
    · rw [← closedState_skip, hf]
    · rw [← State.giveUpReservation_allValues, hf]
      exact congrArg (fun x : Journal => x.copy1.values) hj
    · have hplaces := State.giveUpReservation_places (s := s) c
      rw [← hj] at hplaces
      rw [hf]
      exact ⟨rfl, rfl, hplaces, rfl, rfl, rfl⟩

end Sys2Proof.Proofs
end

section
/-! VOID_LAST (R112 to R114, R6, R137). -/

namespace Sys2Proof.Machine

set_option Elab.async false

variable {s : State} {t c : Nat}

/-! ## Filling a queue (R48) -/

/-- The fill takes lots that are ON_TRAIN and no other (R41, R48). -/
theorem State.fillUpTo_lot (n c : Nat) {k : Nat} (h : s.lotIs k .onTrain = false) :
    (State.fillUpTo n c s).lot k = s.lot k := by
  induction n generalizing s with
  | zero => rfl
  | succ n ih =>
    unfold State.fillUpTo
    dsimp only
    split
    · rfl
    · split
      · split
        · rfl
        · next j hj =>
          have hjoin : (s.lotJoins j c).lot k = s.lot k := by
            refine (State.updLot_lot j k _).trans (if_neg fun hk => ?_)
            have := List.find?_some hj
            simp [← hk, h] at this
          refine (ih ?_).trans hjoin
          change (s.lotJoins j c).lotIs k .onTrain = false
          unfold State.lotIs at h ⊢
          rwa [hjoin]
      · rfl

theorem State.fill_lot (c : Nat) {k : Nat} (h : s.lotIs k .onTrain = false) : (s.fill c).lot k = s.lot k :=
  State.fillUpTo_lot _ c h

/-- The fill appends to the clock's queue, and changes nothing else of the presentation unit (R48). -/
theorem State.fillUpTo_presOf (n c : Nat) :
    ∃ x, ∀ d, (State.fillUpTo n c s).presOf d =
      if d = c then { s.presOf c with queue := (s.presOf c).queue ++ x } else s.presOf d := by
  induction n generalizing s with
  | zero =>
    refine ⟨[], fun d => ?_⟩
    rw [List.append_nil]
    split
    · next h => rw [h]; rfl
    · rfl
  | succ n ih =>
    have hstay : ∃ x, ∀ d, s.presOf d =
        if d = c then { s.presOf c with queue := (s.presOf c).queue ++ x } else s.presOf d := by
      refine ⟨[], fun d => ?_⟩
      rw [List.append_nil]
      split
      · next h => rw [h]
      · rfl
    unfold State.fillUpTo
    dsimp only
    split
    · exact hstay
    · split
      · split
        · exact hstay
        · next j _ =>
          obtain ⟨x, hx⟩ := ih (s := (s.lotJoins j c).setPres c
            { s.presOf c with
              queue := (s.presOf c).queue ++ [{ lot := j, origin := .train, announce := none }] })
          obtain ⟨y, hy⟩ := s.updLot_frame j fun r => { r with state := .queued, clock := some c }
          refine ⟨{ lot := j, origin := .train, announce := none } :: x, fun d => (hx d).trans ?_⟩
          rw [State.setPres_presOf_same, State.setPres_presOf]
          split
          · rw [List.append_assoc]
            rfl
          · rw [show (s.lotJoins j c).presOf d = s.presOf d by unfold State.lotJoins; rw [hy]; rfl]
      · exact hstay

theorem State.fill_presOf (c : Nat) :
    ∃ x, ∀ d, (s.fill c).presOf d =
      if d = c then { s.presOf c with queue := (s.presOf c).queue ++ x } else s.presOf d :=
  State.fillUpTo_presOf _ c

/-! ## The checks (R112) -/

theorem State.voidOutOfReach_iff (r : LotRec) :
    s.voidOutOfReach c r = true ↔
      ((s.clock c).state = .loaded ∨ (s.clock c).state = .idle) ∧
        ∀ n, r.train = some n → (s.train n).state ≠ .presenting := by
  unfold State.voidOutOfReach
  cases r.train <;> simp

theorem removable_iff (r : LotRec) :
    removable r c = true ↔ r.state = .onClock ∧ r.clock = some c ∨ r.state = .soldOut ∨ r.state = .partSold := by
  simp [removable, or_assoc]

/-- A clock that is in no run and no sale (R112 case 2). -/
def Clock.atRest (k : Clock) : Prop := ¬(k.state = .running ∨ k.state = .settling ∨ k.state = .held)

theorem State.judgeVoid_busy (h : ¬(s.clock c).atRest) : s.judgeVoid c = .refused .wrongState :=
  if_pos (not_not.1 h)

theorem State.judgeVoid_unsold (h : (s.clock c).atRest) (hl : (s.clock c).lastSold = none) :
    s.judgeVoid c = .refused .empty := by
  refine (if_neg h).trans ?_
  rw [hl]

theorem State.judgeVoid_free {l : Nat} (h : (s.clock c).atRest) (hl : (s.clock c).lastSold = some l)
    (hr : s.lot l = none) : s.judgeVoid c = .refused .wrongState := by
  refine (if_neg h).trans ?_
  rw [hl]
  dsimp only
  rw [hr]

/-- The checks of R112 from case 4 on. -/
theorem State.judgeVoid_lot {l : Nat} {r : LotRec} (h : (s.clock c).atRest) (hl : (s.clock c).lastSold = some l)
    (hr : s.lot l = some r) :
    s.judgeVoid c =
      if s.voidOutOfReach c r then .refused .wrongState
      else
        match r.purchases.getLast? with
        | none => .refused .empty
        | some p =>
          if removable r c = false then .refused .wrongState
          else if (s.acct p.buyer).state = .vacant then .refused .wrongState
          else if s.journalIsFull then .refused .journalFull
          else if (s.clock c).state = .loaded ∧ (s.clock c).lot ≠ some l ∧
              Config.queueSize ≤ (s.presOf c).queue.length then .refused .full
          else .taken l r p := by
  refine (if_neg h).trans ?_
  rw [hl]
  dsimp only
  rw [hr] <;> rfl

/-- The checks of R112 from case 6 on. -/
theorem State.judgeVoid_purchase {l : Nat} {r : LotRec} {p : Purchase} (h : (s.clock c).atRest)
    (hl : (s.clock c).lastSold = some l) (hr : s.lot l = some r) (hfar : ¬s.voidOutOfReach c r = true)
    (hp : r.purchases.getLast? = some p) :
    s.judgeVoid c =
      if removable r c = false then .refused .wrongState
      else if (s.acct p.buyer).state = .vacant then .refused .wrongState
      else if s.journalIsFull then .refused .journalFull
      else if (s.clock c).state = .loaded ∧ (s.clock c).lot ≠ some l ∧
          Config.queueSize ≤ (s.presOf c).queue.length then .refused .full
      else .taken l r p := by
  refine (State.judgeVoid_lot h hl hr).trans ((if_neg hfar).trans ?_)
  rw [hp]

theorem State.voidLastBlock_refused {code : ReplyCode} (hc : c < 6) (h : s.judgeVoid c = .refused code) :
    s.voidLastBlock c = .refuse s code := by
  refine (clockGuard_of_lt hc _).trans ?_
  rw [h]

theorem State.journalIsFull_iff : s.journalIsFull = true ↔ 8192 ≤ s.values.used + s.values.reserved :=
  decide_eq_true_iff

/-! ## The lot given back (R114, R60) -/

theorem State.voidGiveBack_of_other {l m : Nat} (hq : (s.clock c).state = .loaded) (hm : (s.clock c).lot = some m)
    (hne : m ≠ l) : s.voidGiveBack c l = s.giveBack c m := by
  unfold State.voidGiveBack
  dsimp only
  rw [hm]
  exact if_pos ⟨hq, hne⟩

theorem State.voidGiveBack_cases (c l : Nat) :
    s.voidGiveBack c l = s ∨ ∃ m, m ≠ l ∧ s.voidGiveBack c l = s.giveBack c m := by
  unfold State.voidGiveBack
  dsimp only
  split
  · exact .inl rfl
  · next m _ =>
    split
    · next h => exact .inr ⟨m, h.2, rfl⟩
    · exact .inl rfl

theorem State.giveBack_lot_other {k m : Nat} {r : LotRec} (hne : m ≠ k) (hr : s.lot k = some r)
    (hq : r.state ≠ .onTrain) : (s.giveBack c m).lot k = some r := by
  have hkeep : (s.setLotState m .queued).lot k = some r :=
    (State.updLot_lot m k _).trans ((if_neg (Ne.symm hne)).trans hr)
  refine (State.fill_lot c ?_).trans hkeep
  change (s.setLotState m .queued).lotIs k .onTrain = false
  unfold State.lotIs
  rw [hkeep]
  simpa using hq

theorem State.giveBack_lot_same {m : Nat} {r : LotRec} (hr : s.lot m = some r) :
    (s.giveBack c m).lot m = some { r with state := .queued } := by
  have hkeep : (s.setLotState m .queued).lot m = some { r with state := .queued } :=
    (State.updLot_lot m m _).trans ((if_pos rfl).trans (congrArg (Option.map _) hr))
  refine (State.fill_lot c ?_).trans hkeep
  change (s.setLotState m .queued).lotIs m .onTrain = false
  unfold State.lotIs
  rw [hkeep]
  rfl

theorem State.giveBack_queue (c m : Nat) :
    ((s.giveBack c m).presOf c).queue.head? = some { lot := m, origin := .givenBack, announce := none } := by
  unfold State.giveBack
  dsimp only
  generalize s.setLotState m .queued = v
  obtain ⟨x, hx⟩ := State.fill_presOf
    (s := v.setPres c { joinHead m (s.presOf c) with pending := none, current := none, unrun := false }) c
  rw [hx, if_pos rfl, State.setPres_presOf_same]
  rfl

/-! ## The records of a void (R113) -/

/-- The part after a void, before the presentation unit acts. -/
def State.voided (s : State) (c l : Nat) (r : LotRec) (p : Purchase) : State :=
  ((s.voidGiveBack c l).voidRecords c l r p).voidClock c l

theorem State.takeVoid_eq (c l : Nat) (r : LotRec) (p : Purchase) :
    s.takeVoid c l r p = (s.voided c l r p).settle := rfl

theorem State.append_journal (e : JEntry) : (s.append e).journal = (s.entered e).journal := by
  obtain ⟨o, ho, -⟩ := (s.entered e).raise_ports .fin .journalPending (.number (s.values.used + 1))
  rw [State.append_eq, ho]

theorem State.append_values (e : JEntry) :
    (s.append e).values = { s.values with used := s.values.used + 1, newest := some e.seq } :=
  congrArg (fun j : Journal => j.copy1.values) (State.append_journal e)

theorem State.append_place (e : JEntry) (k : Nat) :
    (s.append e).place k =
      if k = (s.values.oldestPlace + s.values.used) % 8192 then some { e with check := entryCheck e } else s.place k := by
  refine (congrArg (fun j : Journal => Tab.get none j.places k) (State.append_journal e)).trans ?_
  rw [State.entered_places]
  exact Tab.get_set ..

/-- What a booking leaves in its account, but for the mark and OVER. -/
theorem State.book_acct (b : Nat) (a : Account) (sat maySet mayClear : Bool) :
    ∃ x y, (s.book b a sat maySet mayClear).acct b = { a with saturated := x, isOver := y } := by
  unfold State.book
  dsimp only
  split
  · exact ⟨_, _, (State.raiseOver_acct b b).trans (s.setAcct_acct_same b _)⟩
  · exact ⟨_, _, s.setAcct_acct_same b _⟩

theorem State.book_acct_other {b k : Nat} (h : k ≠ b) (a : Account) (sat maySet mayClear : Bool) :
    (s.book b a sat maySet mayClear).acct k = s.acct k := by
  unfold State.book
  dsimp only
  split
  · exact (State.raiseOver_acct b k).trans ((s.setAcct_acct b k _).trans (if_neg h))
  · exact (s.setAcct_acct b k _).trans (if_neg h)

theorem State.bookVoid_acct {b : Nat} (h : (s.acct b).state ≠ .damaged) (net seq : Nat) :
    ∃ x y, (s.bookVoid b net seq).acct b =
      { countEntry { s.acct b with openAmt := saturate ((s.acct b).openAmt - net) } seq with
        saturated := x, isOver := y } := by
  unfold State.bookVoid
  rw [if_neg h]
  exact State.book_acct ..

theorem State.bookVoid_damaged {b : Nat} (h : (s.acct b).state = .damaged) (net seq : Nat) :
    s.bookVoid b net seq = s := if_pos h

theorem State.bookVoid_acct_other {b k : Nat} (hk : k ≠ b) (net seq : Nat) :
    (s.bookVoid b net seq).acct k = s.acct k := by
  unfold State.bookVoid
  split
  · rfl
  · exact State.book_acct_other hk ..

/-- The part as the account of a void finds it: the entry appended and the lot's purchase removed. -/
def State.voidEntered (s : State) (c l : Nat) (r : LotRec) (p : Purchase) : State :=
  ((s.append (s.voidEntry c l r p)).judgeLow).setLot l (some (removePurchase r p c s.nextSeq))

theorem State.voidRecords_eq (c l : Nat) (r : LotRec) (p : Purchase) :
    s.voidRecords c l r p = (s.voidEntered c l r p).bookVoid p.buyer p.net s.nextSeq := rfl

theorem State.voidEntered_frame (c l : Nat) (r : LotRec) (p : Purchase) :
    ∃ o, s.voidEntered c l r p =
      { s with
        lots := (s.setLot l (some (removePurchase r p c s.nextSeq))).lots
        journal := (s.append (s.voidEntry c l r p)).journal, ports := o } := by
  obtain ⟨j, o, h1⟩ := s.append_frame (s.voidEntry c l r p)
  obtain ⟨o', h2⟩ := (s.append (s.voidEntry c l r p)).judgeLow_frame
  refine ⟨o', ?_⟩
  unfold State.voidEntered
  rw [h2, h1]
  rfl

theorem State.voidRecords_frame (c l : Nat) (r : LotRec) (p : Purchase) :
    ∃ a o, s.voidRecords c l r p =
      { s with
        lots := (s.setLot l (some (removePurchase r p c s.nextSeq))).lots
        journal := (s.append (s.voidEntry c l r p)).journal, accounts := a, ports := o } := by
  obtain ⟨o, h1⟩ := State.voidEntered_frame (s := s) c l r p
  obtain ⟨a, o', h2⟩ := (s.voidEntered c l r p).bookVoid_frame p.buyer p.net s.nextSeq
  refine ⟨a, o', ?_⟩
  rw [State.voidRecords_eq, h2, h1]

theorem State.voidRecords_lot (c l k : Nat) (r : LotRec) (p : Purchase) :
    (s.voidRecords c l r p).lot k = if k = l then some (removePurchase r p c s.nextSeq) else s.lot k := by
  obtain ⟨a, o, h⟩ := State.voidRecords_frame (s := s) c l r p
  rw [h]
  exact s.setLot_lot l k (some (removePurchase r p c s.nextSeq))

theorem State.voidEntered_acct (c l b : Nat) (r : LotRec) (p : Purchase) :
    (s.voidEntered c l r p).acct b = s.acct b := by
  obtain ⟨o, h⟩ := State.voidEntered_frame (s := s) c l r p
  rw [h]
  rfl

/-! ## The clock of a void (R113) -/

theorem State.voidClock_frame (c l : Nat) :
    ∃ k w, s.voidClock c l =
      ({ s with clocks := k, line := { s.line with waits := w } }).setPres c { s.presOf c with pending := none } := by
  obtain ⟨k, w, h⟩ := State.dropBegin_frame (s := s) c
  refine ⟨(s.voidClock c l).clocks, w, ?_⟩
  change { (s.dropBegin c).setPres c { (s.dropBegin c).presOf c with pending := none } with
    clocks := (s.voidClock c l).clocks } = _
  rw [State.dropBegin_presOf, h]
  rfl

theorem State.voidClock_clock (c l : Nat) :
    (s.voidClock c l).clock c =
      { s.clock c with
        state := .paused, lot := some l, position := (s.clock c).lastStood, nextStart := some 0
        cause := some .auctioneer, pausePending := false, timer := none, winner := none, waitBegin := none } := by
  refine (State.setClock_clock_same (s.dropBegin c) c _).trans ?_
  rw [State.dropBegin_clock]
  rfl

theorem State.voidClock_others {d : Nat} (l : Nat) (hd : d ≠ c) : (s.voidClock c l).clock d = s.clock d :=
  (State.setClock_clock (s.dropBegin c) c d _).trans ((if_neg hd).trans (State.dropBegin_others hd))

end Sys2Proof.Machine

namespace Sys2Proof.Proofs

open Machine

/-- Settles O31: the checks in their order, and the records and the clock of a void that is taken. -/
theorem voidLastTakesTheSaleBack : Obligations.VoidLastTakesTheSaleBack := by
  constructor
  · intro s t c hs hc k refused busy
    have hrefused {code : ReplyCode} (h : s.judgeVoid c = .refused code) : refused code :=
      exec_refuse hs rfl rfl rfl (State.voidLastBlock_refused hc h)
    refine ⟨fun h => hrefused (State.judgeVoid_busy (not_not.2 h)), fun h hl => hrefused (State.judgeVoid_unsold h hl),
      fun l h hl => ⟨fun hr => hrefused (State.judgeVoid_free h hl hr), fun r hr => ?_⟩⟩
    intro far removed
    have hfar : s.voidOutOfReach c r = true ↔ far := State.voidOutOfReach_iff r
    refine ⟨fun hf => hrefused ((State.judgeVoid_lot h hl hr).trans (if_pos (hfar.2 hf))), fun hf hp => ?_,
      fun p hf hp => ?_⟩
    · refine hrefused ((State.judgeVoid_lot h hl hr).trans ((if_neg (mt hfar.1 hf)).trans ?_))
      rw [hp]
      rfl
    · have hjudge := State.judgeVoid_purchase h hl hr (mt hfar.1 hf) hp
      have hrem : removed → ¬removable r c = false := fun hm => by simp [(removable_iff r).2 hm]
      refine ⟨fun hm => ?_, fun hm hv => ?_, fun hm hv hfull => ?_, fun hm hv hfull hq hne hlen => ?_⟩
      · refine hrefused (hjudge.trans (if_pos ?_))
        rw [← Bool.not_eq_true]
        exact mt (removable_iff r).1 hm
      · exact hrefused (hjudge.trans ((if_neg (hrem hm)).trans (if_pos hv)))
      · exact hrefused (hjudge.trans ((if_neg (hrem hm)).trans ((if_neg hv).trans
          (if_pos (State.journalIsFull_iff.2 hfull)))))
      · exact hrefused (hjudge.trans ((if_neg (hrem hm)).trans ((if_neg hv).trans
          ((if_neg (mt State.journalIsFull_iff.1 (Nat.not_le.2 hfull))).trans (if_pos ⟨hq, hne, hlen⟩)))))
  · intro s t c l r p hs hc k hrun hsettle hheld hl hr hnear hp hrem hv hfull hqueue e
    have hrest : (s.clock c).atRest := not_or.2 ⟨hrun, not_or.2 ⟨hsettle, hheld⟩⟩
    have htaken : s.judgeVoid c = .taken l r p := by
      refine (State.judgeVoid_purchase hrest hl hr ?_ hp).trans ((if_neg (by simp [(removable_iff r).2 hrem])).trans
        ((if_neg hv).trans ((if_neg (mt State.journalIsFull_iff.1 (Nat.not_le.2 hfull))).trans (if_neg ?_))))
      · rw [State.voidOutOfReach_iff]
        rintro ⟨hq, hno⟩
        obtain ⟨n, hn, hpres⟩ := hnear hq
        exact hno n hn hpres
      · rintro ⟨hq, hne, hlen⟩
        exact Nat.not_le.2 (hqueue hq hne) hlen
    refine ⟨s.voided c l r p, exec_ok hs rfl rfl rfl ((clockGuard_of_lt hc _).trans (by rw [htaken]; rfl)), ?_⟩
    have hlot : (s.voidGiveBack c l).lot l = some r := by
      rcases State.voidGiveBack_cases (s := s) c l with h | ⟨m, hne, h⟩
      · rw [h, hr]
      · rw [h]
        refine State.giveBack_lot_other hne hr ?_
        rcases hrem with ⟨h, -⟩ | h | h <;> rw [h] <;> decide
    have hback : ∀ m x, k.state = .loaded → k.lot = some m → m ≠ l → s.lot m = some x →
        ((s.voidGiveBack c l).presOf c).queue.head? = some { lot := m, origin := .givenBack, announce := none } ∧
        (s.voidGiveBack c l).lot m = some { x with state := .queued } := fun m x hq hm hne hx => by
      rw [State.voidGiveBack_of_other hq hm hne]
      exact ⟨State.giveBack_queue c m, State.giveBack_lot_same hx⟩
    have hframe : ∃ x y, s.voidGiveBack c l = { s with lots := x, pres := y } := by
      rcases State.voidGiveBack_cases (s := s) c l with h | ⟨m, -, h⟩
      · exact ⟨_, _, h⟩
      · rw [h]
        exact s.giveBack_frame c m
    unfold State.voided
    generalize s.voidGiveBack c l = v at hlot hback hframe ⊢
    obtain ⟨x, y, rfl⟩ := hframe
    have hlots := fun k => State.voidRecords_lot (s := { s with lots := x, pres := y }) c l k r p
    obtain ⟨a, o, hw⟩ := State.voidRecords_frame (s := { s with lots := x, pres := y }) c l r p
    have hacct := fun b => State.voidEntered_acct (s := { s with lots := x, pres := y }) c l b r p
    have hbook := State.voidRecords_eq (s := { s with lots := x, pres := y }) c l r p
    have hvalues := State.append_values (s := { s with lots := x, pres := y })
      (State.voidEntry { s with lots := x, pres := y } c l r p)
    have hplace := State.append_place (s := { s with lots := x, pres := y })
      (State.voidEntry { s with lots := x, pres := y } c l r p)
    generalize State.voidEntered _ c l r p = z at hacct hbook
    generalize State.append _ _ = j at hvalues hplace hw
    generalize State.voidRecords _ c l r p = w at hlots hbook hw ⊢
    obtain ⟨kk, ww, hu⟩ := State.voidClock_frame (s := w) c l
    have hclock := State.voidClock_clock (s := w) c l
    have hothers := fun d (hd : d ≠ c) => State.voidClock_others (s := w) l hd
    have huacct : ∀ b, (w.voidClock c l).acct b = (z.bookVoid p.buyer p.net s.nextSeq).acct b := fun b => by
      rw [hu, ← show w = z.bookVoid p.buyer p.net s.nextSeq from hbook]
      rfl
    have hulot : ∀ k, (w.voidClock c l).lot k = w.lot k := fun k => by rw [hu]; rfl
    have hwclock : ∀ d, w.clock d = s.clock d := fun d => by rw [hw]; rfl
    rw [hwclock] at hclock
    generalize w.voidClock c l = u at hulot hclock hothers huacct hu ⊢
    refine ⟨?_, ?_, ?_, fun hd => ?_, fun hd => ?_, fun b hb => ?_, hclock, ?_, fun d hd => ?_, fun m x' hq hm hne hx => ?_,
      ?_, ?_, ?_⟩
    · rw [hulot, hlots, if_pos rfl]
      rfl
    · rw [hu, hw]
      exact (hplace _).trans (if_pos rfl)
    · rw [hu, hw]
      exact hvalues
    · have hbooked := State.bookVoid_acct (s := z) (b := p.buyer) (by rw [hacct]; exact hd) p.net s.nextSeq
      obtain ⟨x1, y1, hz⟩ := hbooked
      rw [huacct, hz, hacct]
      exact ⟨rfl, rfl, rfl, rfl⟩
    · rw [huacct, State.bookVoid_damaged (by rw [hacct]; exact hd), hacct]
      rfl
    · rw [huacct, State.bookVoid_acct_other hb, hacct]
      rfl
    · rw [hu]
      exact congrArg Pres.pending (State.setPres_presOf_same ..)
    · rw [hothers d hd, hwclock]
    · obtain ⟨hhead, hlot'⟩ := hback m x' hq hm hne hx
      refine ⟨?_, (hulot m).trans ((hlots m).trans ((if_neg hne).trans hlot'))⟩
      rw [hu, State.setPres_presOf_same, hw]
      exact hhead
    · rw [hu, hw]
      rfl
    · rw [hu, hw]
      rfl
    · rw [hu, hw]
      rfl

end Sys2Proof.Proofs
end

section
/-! Stops (R94 to R101) and rehearsal runs (R85 to R88). -/

namespace Sys2Proof.Machine

set_option Elab.async false

variable {s : State} {t c : Nat}

/-! ## Frames that are placed on a part whose clock changes -/

/-- A displaced ANNOUNCE is told by the lot that the clock has, and by nothing else of the clock (R51). -/
theorem State.displaced_setClock {k : Clock} (h : k.lot = (s.clock c).lot) (d l : Nat) :
    (s.setClock c k).displaced d l = (s.displaced d l).setClock c k := by
  have hlot : ((s.setClock c k).clock d).lot = (s.clock d).lot := by
    rw [State.setClock_clock]
    split
    · next hd => rw [hd, h]
    · rfl
  unfold State.displaced
  dsimp only
  rw [hlot, show (s.setClock c k).lot l = s.lot l from rfl]
  split
  · rfl
  · split
    · rfl
    · symm
      exact apply_ite (fun q : State => q.setClock c k) (_ ∧ _ ∧ _ ∧ _) _ _

theorem State.placed_setClock {f : OutFrame} {v : State} {k : Clock} (hk : k.lot = (s.clock c).lot)
    (h : s.Placed f v) : (s.setClock c k).Placed f (v.setClock c k) := by
  obtain ⟨hl, rfl⟩ | ⟨hl, before, x, behind, d, l, hq, hx, hne, hb, rfl⟩ := h
  · exact .inl ⟨hl, rfl⟩
  · exact .inr ⟨hl, before, x, behind, d, l, hq, hx, hne, hb,
      (State.displaced_setClock (s := s.setOutbound (before ++ behind ++ [{ frame := f, sent := 0 }])) hk d l).symm⟩

theorem State.replyAt_eq (c d : Nat) (code : DeskCode) (p : Nat) :
    s.replyAt c d code p =
      s.offerReply d code (some c) (s.clock c).tag
        (.positionPrice (some p) ((s.clock c).startPrice.map fun x => x - p * (s.clock c).set.step)) := rfl

theorem State.offerReply_clock (d : Nat) (code : DeskCode) (x : Option Nat) (tag : Nat) (e : ReplyDetail) (c : Nat) :
    (s.offerReply d code x tag e).clock c = s.clock c := by
  obtain ⟨q, p, h⟩ := s.offerReply_frame d code x tag e
  rw [h]
  rfl

theorem State.replyAt_clock (c d : Nat) (code : DeskCode) (p e : Nat) :
    (s.replyAt c d code p).clock e = s.clock e := State.offerReply_clock ..

/-! ## Judging a STOP frame (R95, R96) -/

theorem exec_stop {pos d tag : Nat} (h : s.turn = some (.stop c pos d tag)) :
    exec .stop s = .next (s.handOn.takeStopFrame c pos d tag) := by
  change execStop s = _
  unfold execStop
  rw [h]

/-- A STOP for the clock's run, whose position is not LATE (R96). -/
theorem State.takeStopFrame_inRun {pos d n : Nat} (hc : c < 6)
    (hq : (s.clock c).state = .running ∨ (s.clock c).state = .settling) (hp : (s.clock c).position = some n)
    (hgrace : n ≤ min pos n + (s.clock c).set.grace) :
    s.takeStopFrame c pos d (s.clock c).tag = s.stopInRun c d (min pos n) := by
  refine (if_pos hc).trans ?_
  unfold State.judgeStop
  dsimp only
  rw [if_neg (not_not.2 rfl), show (s.clock c).position.getD 0 = n from congrArg (Option.getD · 0) hp]
  rcases hq with hq | hq <;> rw [hq] <;> exact if_neg (Nat.not_lt.2 hgrace)

theorem State.takeStopFrame_late {pos d n : Nat} (hc : c < 6)
    (hq : (s.clock c).state = .running ∨ (s.clock c).state = .settling) (hp : (s.clock c).position = some n)
    (hgrace : min pos n + (s.clock c).set.grace < n) :
    s.takeStopFrame c pos d (s.clock c).tag = s.replyAt c d .late n := by
  refine (if_pos hc).trans ?_
  unfold State.judgeStop
  dsimp only
  rw [if_neg (not_not.2 rfl), show (s.clock c).position.getD 0 = n from congrArg (Option.getD · 0) hp]
  rcases hq with hq | hq <;> rw [hq] <;> exact if_pos hgrace

/-! ## The response set (R85) -/

theorem State.joinResponses_of_lot {d : Nat} (h : (s.clock c).rehearsalRun = false) : s.joinResponses c d = s :=
  if_neg (by simp [h])

theorem State.joinResponses_of_rehearsal {d : Nat} (h : (s.clock c).rehearsalRun = true) :
    s.joinResponses c d =
      if d ∈ (s.clock c).responses then s
      else s.setClock c { s.clock c with responses := (s.clock c).responses ++ [d] } := by
  unfold State.joinResponses
  dsimp only
  by_cases hd : d ∈ (s.clock c).responses
  · rw [if_neg (by simp [hd]), if_pos hd]
  · rw [if_pos ⟨h, by simpa using hd⟩, if_neg hd]

/-! ## A stop by the clock's state (R97 to R101) -/

theorem State.stopInRun_settling {d q : Nat} {w : Winner} (hq : ((s.joinResponses c d).clock c).state = .settling)
    (hw : ((s.joinResponses c d).clock c).winner = some w) :
    s.stopInRun c d q = (s.joinResponses c d).stopSettling c d q w := by
  unfold State.stopInRun
  dsimp only
  rw [hq, hw]

theorem State.stopInRun_candidate {d q : Nat} {w : Winner} (hq : ((s.joinResponses c d).clock c).state = .running)
    (hw : ((s.joinResponses c d).clock c).waitHalt.bind (·.candidate) = some w) :
    s.stopInRun c d q = (s.joinResponses c d).stopCandidate c d q w := by
  unfold State.stopInRun
  dsimp only
  rw [hq, hw]

theorem State.stopInRun_running {d q : Nat} (hq : ((s.joinResponses c d).clock c).state = .running)
    (hw : ((s.joinResponses c d).clock c).waitHalt.bind (·.candidate) = none) :
    s.stopInRun c d q =
      match (s.joinResponses c d).judgeWinner c d q with
      | .error code => (s.joinResponses c d).replyPlain c d code
      | .ok w => (s.joinResponses c d).stopRunning c w := by
  unfold State.stopInRun
  dsimp only
  rw [hq, hw] <;> cases ((s.joinResponses c d).clock c).winner <;> rfl

theorem State.stopRunning_placed {w : Winner} {n : Nat} {v : State} (hw : (s.clock c).waitHalt = none)
    (hp : (s.clock c).position = some n) (hv : s.HaltPlaced c .stop n v) : s.stopRunning c w = v.takeStop c w := by
  unfold State.stopRunning
  dsimp only
  rw [hw, s.offerHalt_of_placed hv hp]

/-! ## Rehearsal runs (R85, R86) -/

/-- The winner record of a rehearsal run: no buyer and no hold (R85). -/
def rehearsalWinner (k : Clock) (d q : Nat) : Winner :=
  { desk := d, buyer := none, position := q, price := k.startPrice.getD 0 - q * k.set.step, hold := 0, given := none }

theorem State.judgeWinner_rehearsal {d q : Nat} (h : (s.clock c).rehearsalRun = true) :
    s.judgeWinner c d q = .ok (rehearsalWinner (s.clock c) d q) := if_pos h

/-- A stop that is taken in a rehearsal run (R85, R99). -/
theorem State.takeStop_rehearsal {w : Winner} (h : w.buyer = none) :
    s.takeStop c w =
      (s.setClock c
        { s.clock c with
          state := .settling, winner := some w, waitHalt := none, timer := some (s.clock c).set.settle }).offerReply
        w.desk .accepted (some c) (s.clock c).tag
        (.positionPrice (some w.position) ((s.clock c).startPrice.map fun x => x - w.position * (s.clock c).set.step)) := by
  unfold State.takeStop State.placeWinner
  dsimp only
  rw [h]
  dsimp only
  rw [State.replyAt_eq, State.setClock_clock_same]

/-- The winner of a rehearsal run is replaced (R101, log entry 27). -/
theorem State.replaceWinner_rehearsal {old w : Winner} (ho : old.buyer = none) (hw : w.buyer = none) :
    s.replaceWinner c old w =
      ((s.setClock c { s.clock c with winner := some w }).replyAt c old.desk .outbid w.position).replyAt c w.desk
        .accepted w.position := by
  unfold State.replaceWinner State.placeWinner State.releaseWinner
  dsimp only
  rw [ho, hw]

/-- The first stop of a rehearsal run (R85, R99). -/
theorem State.stopInRun_rehearsalFirst {d q n : Nat} {j v : State} (hj : s.joinResponses c d = j)
    (hm : (j.clock c).rehearsalRun = true) (hq : (j.clock c).state = .running) (hw : (j.clock c).waitHalt = none)
    (hp : (j.clock c).position = some n) (hv : j.HaltPlaced c .stop n v) :
    s.stopInRun c d q =
      (v.setClock c
        { j.clock c with
          state := .settling, winner := some (rehearsalWinner (j.clock c) d q), waitHalt := none
          timer := some (j.clock c).set.settle }).offerReply d .accepted (some c) (j.clock c).tag
        (.positionPrice (some q) ((j.clock c).startPrice.map fun x => x - q * (j.clock c).set.step)) := by
  refine (State.stopInRun_running (by rw [hj]; exact hq) (by rw [hj, hw]; rfl)).trans ?_
  rw [hj, State.judgeWinner_rehearsal hm]
  dsimp only
  rw [State.stopRunning_placed hw hp hv, State.takeStop_rehearsal rfl, State.placed_clock hv c]
  rfl

/-- The response set with a desk in it (R85). -/
def responsesWith (l : List Nat) (d : Nat) : List Nat := if d ∈ l then l else l ++ [d]

theorem State.stopInRun_rehearsalRunning {d q n : Nat} {v : State} (hm : (s.clock c).rehearsalRun = true)
    (hq : (s.clock c).state = .running) (hw : (s.clock c).waitHalt = none) (hp : (s.clock c).position = some n)
    (hv : s.HaltPlaced c .stop n v) :
    s.stopInRun c d q =
      (v.setClock c
        { s.clock c with
          state := .settling, winner := some (rehearsalWinner (s.clock c) d q), waitHalt := none
          timer := some (s.clock c).set.settle
          responses := responsesWith (s.clock c).responses d }).offerReply d .accepted (some c) (s.clock c).tag
        (.positionPrice (some q) ((s.clock c).startPrice.map fun x => x - q * (s.clock c).set.step)) := by
  have hjoin := State.joinResponses_of_rehearsal (d := d) hm
  unfold responsesWith
  by_cases hd : d ∈ (s.clock c).responses
  · rw [if_pos hd] at hjoin ⊢
    exact State.stopInRun_rehearsalFirst hjoin hm hq hw hp hv
  · rw [if_neg hd] at hjoin ⊢
    have hclock := s.setClock_clock_same c
      { s.clock c with responses := (s.clock c).responses ++ [d] }
    have hv' : (s.setClock c { s.clock c with responses := (s.clock c).responses ++ [d] }).HaltPlaced c .stop n
        (v.setClock c { s.clock c with responses := (s.clock c).responses ++ [d] }) := by
      unfold State.HaltPlaced State.haltFrame
      rw [hclock]
      exact State.placed_setClock rfl hv
    refine (State.stopInRun_rehearsalFirst (q := q) hjoin (by rw [hclock]; exact hm) (by rw [hclock]; exact hq)
      (by rw [hclock]; exact hw) (by rw [hclock]; exact hp) hv').trans ?_
    rw [hclock, State.setClock_setClock]
    rfl

/-- A stop against the provisional winner of a rehearsal run (R85, R101). -/
theorem State.stopInRun_rehearsalLater {d q : Nat} {j : State} {old : Winner} (hj : s.joinResponses c d = j)
    (hm : (j.clock c).rehearsalRun = true) (hq : (j.clock c).state = .settling) (hw : (j.clock c).winner = some old)
    (hb : old.buyer = none) :
    s.stopInRun c d q =
      if d = old.desk then j.replyAt c d .accepted q
      else if old.position ≤ q then j.replyAt c d .outbid old.position
      else
        ((j.setClock c { j.clock c with winner := some (rehearsalWinner (j.clock c) d q) }).replyAt c old.desk .outbid
          q).replyAt c d .accepted q := by
  refine (State.stopInRun_settling (by rw [hj]; exact hq) (by rw [hj]; exact hw)).trans ?_
  unfold State.stopSettling
  rw [hj, State.judgeWinner_rehearsal hm]
  dsimp only
  rw [State.replaceWinner_rehearsal hb rfl]
  rfl

/-- A reply to a STOP, with the position and the price of clock `k` (R177). -/
def State.answerAt (s : State) (k : Clock) (c d : Nat) (code : DeskCode) (p : Nat) : State :=
  s.offerReply d code (some c) k.tag (.positionPrice (some p) (k.startPrice.map fun x => x - p * k.set.step))

theorem State.replyAt_answerAt {k : Clock} (ht : (s.clock c).tag = k.tag) (hs : (s.clock c).startPrice = k.startPrice)
    (hx : (s.clock c).set = k.set) (d : Nat) (code : DeskCode) (p : Nat) :
    s.replyAt c d code p = s.answerAt k c d code p := by
  rw [State.replyAt_eq, ht, hs, hx]
  rfl

/-- A stop in the settle window of a rehearsal run: the desk joins the set, and is judged against the winner (R85,
R101). -/
theorem State.stopInRun_rehearsalSettling {d q : Nat} {old : Winner} (hm : (s.clock c).rehearsalRun = true)
    (hq : (s.clock c).state = .settling) (hw : (s.clock c).winner = some old) (hb : old.buyer = none) :
    let k := s.clock c
    let v := if d ∈ k.responses then s else s.setClock c { k with responses := responsesWith k.responses d }
    s.stopInRun c d q =
      if d = old.desk then v.answerAt k c d .accepted q
      else if old.position ≤ q then v.answerAt k c d .outbid old.position
      else
        ((s.setClock c
          { k with
            responses := responsesWith k.responses d
            winner := some (rehearsalWinner k d q) }).answerAt k c old.desk .outbid q).answerAt k c d .accepted q := by
  intro k v
  have hresponses : d ∈ k.responses → responsesWith k.responses d = k.responses := fun hd => if_pos hd
  have hjoin : s.joinResponses c d = v := by
    rw [State.joinResponses_of_rehearsal hm]
    by_cases hd : d ∈ (s.clock c).responses
    · exact (if_pos hd).trans (if_pos hd).symm
    · refine (if_neg hd).trans ((if_neg hd).trans ?_).symm
      rw [show responsesWith k.responses d = _ from if_neg hd]
  have hclock : v.clock c = { k with responses := responsesWith k.responses d } := by
    by_cases hd : d ∈ k.responses
    · rw [show v = s from if_pos hd, hresponses hd]
    · rw [show v = s.setClock c { k with responses := responsesWith k.responses d } from if_neg hd,
        State.setClock_clock_same]
  have hwinner : v.setClock c { v.clock c with winner := some (rehearsalWinner (v.clock c) d q) } =
      s.setClock c
        { k with responses := responsesWith k.responses d, winner := some (rehearsalWinner k d q) } := by
    rw [hclock]
    by_cases hd : d ∈ k.responses
    · rw [show v = s from if_pos hd]
      rfl
    · rw [show v = s.setClock c { k with responses := responsesWith k.responses d } from if_neg hd,
        State.setClock_setClock]
      rfl
  refine (State.stopInRun_rehearsalLater hjoin (by rw [hclock]; exact hm) (by rw [hclock]; exact hq)
    (by rw [hclock]; exact hw) hb).trans ?_
  rw [hwinner, State.replyAt_answerAt (k := k) (by rw [hclock]) (by rw [hclock]) (by rw [hclock]),
    State.replyAt_answerAt (k := k) (by rw [hclock]) (by rw [hclock]) (by rw [hclock])]
  have hset := s.setClock_clock_same c
    { k with responses := responsesWith k.responses d, winner := some (rehearsalWinner k d q) }
  rw [State.replyAt_answerAt (k := k) (by rw [State.replyAt_clock, hset]) (by rw [State.replyAt_clock, hset])
      (by rw [State.replyAt_clock, hset]),
    State.replyAt_answerAt (k := k) (by rw [hset]) (by rw [hset]) (by rw [hset])]

theorem State.endRehearsal_eq {v : State} (h : v.clock c = s.clock c) :
    v.endRehearsal c = v.setClock c (s.clock c).rehearsed := by
  unfold State.endRehearsal
  rw [h]
  rfl

theorem State.takeRunout_rehearsal {v : State} (h : v.clock c = s.clock c) (hm : (s.clock c).rehearsalRun = true) :
    v.takeRunout c = (v.setClock c (s.clock c).rehearsed).raise .auc .clockRunout (.number c) := by
  rw [← State.endRehearsal_eq h]
  exact if_pos (by rw [h]; exact hm)

theorem State.takePause_rehearsal {v : State} (h : v.clock c = s.clock c) (hm : (s.clock c).rehearsalRun = true)
    (cause : PauseCause) (told : Bool) : v.takePause c cause told = v.setClock c (s.clock c).rehearsed := by
  rw [← State.endRehearsal_eq h]
  exact if_pos (by rw [h]; exact hm)

/-- The settle expiry of a rehearsal run whose SALE is placed (R86). -/
theorem State.settleRehearsal_placed {w : Winner} {v : State}
    (hv : s.Placed (.sale c (s.clock c).tag true w.desk w.position w.price 0 0 0 0) v) :
    s.settleRehearsal c w =
      ((v.offerReply w.desk .won (some c) (s.clock c).tag
        (.positionPrice (some w.position)
          ((s.clock c).startPrice.map fun y => y - w.position * (s.clock c).set.step))).setClock c
        (s.clock c).rehearsed).judgeClocks none := by
  have hclock := State.placed_clock hv c
  unfold State.settleRehearsal State.offerRehearsalSale
  rw [s.offer_of_placed hv rfl rfl]
  refine congrArg (State.judgeClocks · none) ?_
  unfold State.takeRehearsalSale
  rw [State.endRehearsal_eq (s := s) ((State.replyAt_clock ..).trans hclock), State.replyAt_eq, hclock]

theorem State.settleRehearsal_noPlace {w : Winner} (hno : s.NoPlace) (hwait : s.NotWaiting c) :
    s.settleRehearsal c w =
      (s.setClock c { s.clock c with timer := none }).setWaits
        (s.line.waits ++ [{ who := .clock c, kind := .sale }]) := by
  unfold State.settleRehearsal State.offerRehearsalSale
  rw [s.offer_of_noPlace _ hno]
  exact State.joinWait_of_notWaiting _ c .sale hwait

theorem exec_settleExpiry (hon : s.isOn = true) (hq : (s.clock c).state = .settling) (ht : (s.clock c).timer = some 0)
    {w : Winner} (hw : (s.clock c).winner = some w) (hm : (s.clock c).rehearsalRun = true) :
    exec (.settleExpiry c) s = .next (s.settleRehearsal c w) := by
  refine congrArg _ ((if_pos ((State.timeUp_iff hon c _).2 ⟨hq, ht⟩)).trans ?_)
  unfold State.settleUp
  dsimp only
  rw [hw]
  exact if_pos hm

/-- The slot of a sale that waited comes (R86, R109). -/
theorem State.produce_sale {w : Winner} (hh : (s.clock c).waitHalt = none) (hb : (s.clock c).waitBegin = none)
    (hw : (s.clock c).winner = some w) :
    s.produce (.clock c) = if (s.clock c).rehearsalRun then s.settleRehearsal c w else s.attemptCommit c := by
  unfold State.produce State.grantSale
  dsimp only
  rw [hh, hb]
  dsimp only
  rw [hw]

theorem State.produce_halt {h : WaitHalt} (hh : (s.clock c).waitHalt = some h) :
    s.produce (.clock c) = s.grantHalt c h := by
  unfold State.produce
  dsimp only
  rw [hh]

theorem State.grantHalt_runout {h : WaitHalt} {n : Nat} (hr : h.reason = .runout) (hp : (s.clock c).position = some n)
    (hroom : s.line.outbound.length < 16) : s.grantHalt c h = (s.haltSent c .runout n).takeRunout c := by
  unfold State.grantHalt
  rw [hr]
  dsimp only
  rw [s.offerHalt_of_room c n .runout hroom hp]
  rfl

theorem State.grantHalt_pause {h : WaitHalt} {n : Nat} (hr : h.reason = .pause) (hp : (s.clock c).position = some n)
    (hroom : s.line.outbound.length < 16) :
    s.grantHalt c h =
      (s.haltSent c .pause n).takePause c (h.cause.getD .auctioneer) (h.cause.getD .auctioneer == .supply) := by
  unfold State.grantHalt
  rw [hr]
  dsimp only
  rw [s.offerHalt_of_room c n .pause hroom hp]
  rfl

/-- A candidate that passes when the clock's slot comes takes the clock (R100). -/
theorem State.grantHalt_stop {h : WaitHalt} {n : Nat} {old w : Winner} (hr : h.reason = .stop)
    (hold : h.candidate = some old) (hw : s.judgeWinner c old.desk old.position = .ok w)
    (hp : (s.clock c).position = some n) (hroom : s.line.outbound.length < 16) :
    s.grantHalt c h = (s.haltSent c .stop n).takeStop c w := by
  unfold State.grantHalt State.rejudgeStop
  rw [hr]
  dsimp only
  rw [hold]
  dsimp only
  rw [hw]
  dsimp only
  rw [s.offerHalt_of_room c n .stop hroom hp]
  rfl

theorem mayStep_eq_false {k : Clock} {n : Nat} (hp : k.position = some n)
    (h : 99 < n + 1 ∨ k.startPrice.getD 0 < k.reserve.getD 0 + (n + 1) * k.set.step) : mayStep k = false := by
  unfold mayStep
  rw [hp]
  simp only [Option.getD_some, Bool.and_eq_false_iff, decide_eq_false_iff_not, not_le]
  exact h

theorem exec_stepTimerExpiry_runOut {n : Nat} {v : State} (hon : s.isOn = true) (hq : (s.clock c).state = .running)
    (ht : (s.clock c).timer = some 0) (hp : (s.clock c).position = some n)
    (hmay : 99 < n + 1 ∨ (s.clock c).startPrice.getD 0 < (s.clock c).reserve.getD 0 + (n + 1) * (s.clock c).set.step)
    (hv : s.HaltPlaced c .runout n v) : exec (.stepTimerExpiry c) s = .next (v.takeRunout c).settle := by
  change Host.Outcome.next (if s.timeUp c .running then if mayStep (s.clock c) then s.stepOn c else s.runOut c else s) = _
  rw [if_pos ((State.timeUp_iff hon c _).2 ⟨hq, ht⟩), mayStep_eq_false hp hmay]
  unfold State.runOut
  rw [s.offerHalt_of_placed hv hp]
  rfl

end Sys2Proof.Machine

namespace Sys2Proof.Proofs

open Machine

/-- Settles O32: the response set's commands, the stops of a rehearsal run, and its three ends. -/
theorem rehearsalResponsesAreClearedAndReported : Obligations.RehearsalResponsesAreClearedAndReported := by
  refine ⟨?_, ?_, ?_⟩
  · intro s t c hs hc k n page
    have hpages : reportPages (s.clock c).responses = n := rfl
    have hpage : reportBytes (s.clock c).responses 0 ++ u1 (reportPages (s.clock c).responses) = page := by
      unfold reportBytes reportPage listBytes
      rw [List.length_map, List.length_take, ← List.flatMap_def]
      rfl
    refine ⟨exec_ok hs rfl rfl rfl (clockGuard_of_lt hc _), fun hlen => ?_, fun hlen => ?_, fun n v hm hq hw hp hv => ?_⟩
    · refine exec_ok hs rfl rfl rfl ((clockGuard_of_lt hc _).trans ?_)
      rw [hpage, if_neg (by rw [hpages]; omega)]
    · refine exec_ok hs rfl rfl rfl ((clockGuard_of_lt hc _).trans ?_)
      rw [hpage, if_pos (by rw [hpages]; omega), State.openTransfer_eq _ _ (by rw [hpages]; omega)]
      rfl
    · refine exec_clockPause hs hc ((State.pauseClock_running hq).trans (congrArg (fun u => some (State.judgeClocks u none)) ?_))
      exact (State.pauseRunning_placed hw hp hv _).trans (State.takePause_rehearsal (State.placed_clock hv c) hm _ _)
  · intro s f rest c pos d n hon hin hc hf k q joined w u answer hm hp hgrace
    have hexec : exec .stop s = .next (u.takeStopFrame c pos d (u.clock c).tag) := by
      rw [exec_stop ((State.turn_of_head hon hin).trans (congrArg some hf)), State.handOn_eq hin]
      rfl
    have hrun (hq : (u.clock c).state = .running ∨ (u.clock c).state = .settling) :
        exec .stop s = .next (u.stopInRun c d q) :=
      hexec.trans (congrArg _ (State.takeStopFrame_inRun hc hq hp hgrace))
    refine ⟨fun v hq hw hv => ?_, fun old hq hw hb => ?_⟩
    · exact (hrun (.inl hq)).trans (congrArg _ (State.stopInRun_rehearsalRunning hm hq hw hp hv))
    · intro v
      have hexec := (hrun (.inr hq)).trans (congrArg _ (State.stopInRun_rehearsalSettling (s := u) (d := d) (q := q) hm hq
        hw hb))
      exact ⟨fun hd => hexec.trans (congrArg _ (if_pos hd)),
        fun hd hle => hexec.trans (congrArg _ ((if_neg hd).trans (if_pos hle))),
        fun hd hlt => hexec.trans (congrArg _ ((if_neg hd).trans (if_neg (Nat.not_le.2 hlt))))⟩
  · intro s c n hc hm hp k ended ranOut
    refine ⟨fun w hw => ⟨fun v hv => ?_, fun hno hwait hon hq ht => ?_⟩, fun v hv hon hq ht hmay => ?_,
      fun hroom h hh => ⟨fun hr => ?_, fun hr => ?_, fun old hr hold => ?_⟩⟩
    · intro told
      refine ⟨fun hon hq ht => ?_, fun hh hb => ?_⟩
      · exact (exec_settleExpiry hon hq ht hw hm).trans (congrArg _ (State.settleRehearsal_placed hv))
      · exact (State.produce_sale hh hb hw).trans ((if_pos hm).trans (State.settleRehearsal_placed hv))
    · exact (exec_settleExpiry hon hq ht hw hm).trans (congrArg _ (State.settleRehearsal_noPlace hno hwait))
    · rw [exec_stepTimerExpiry_runOut hon hq ht hp hmay hv, State.takeRunout_rehearsal (State.placed_clock hv c) hm]
    · rw [State.produce_halt hh, State.grantHalt_runout hr hp hroom]
      exact State.takeRunout_rehearsal (s := s) (v := s.haltSent c .runout n) rfl hm
    · rw [State.produce_halt hh, State.grantHalt_pause hr hp hroom]
      exact State.takePause_rehearsal (s := s) (v := s.haltSent c .pause n) rfl hm _ _
    · rw [State.produce_halt hh,
        State.grantHalt_stop hr hold (State.judgeWinner_rehearsal hm) hp hroom]
      exact State.takeStop_rehearsal (s := s.haltSent c .stop n) rfl

end Sys2Proof.Proofs
end

section
/-! Stops of a run of a lot: those that take the clock and those that are not taken (R94 to R101, R136). -/

namespace Sys2Proof.Machine

set_option Elab.async false

variable {s : State} {t c : Nat}

/-! ## Judging the desk and its buyer (R97, R98) -/

/-- The winner record of a stop in a run of a lot (R93, R98): the buyer and the hold of Emin stems. -/
def State.lotWinner (s : State) (c d q b : Nat) (r : LotRec) : Winner :=
  let price := (s.clock c).startPrice.getD 0 - q * (s.clock c).set.step
  { desk := d, buyer := some b, position := q, price := price
    hold := price * min (r.minTake * r.unit) r.remaining +
      feeOf (s.fee (s.acct b).feeClass) price (min (r.minTake * r.unit) r.remaining)
    given := none }

theorem State.judgeWinner_lot {d q l : Nat} {r : LotRec} (hm : (s.clock c).rehearsalRun = false)
    (hl : (s.clock c).lot = some l) (hr : s.lot l = some r) :
    s.judgeWinner c d q =
      match s.judgeBuyer d r ((s.clock c).startPrice.getD 0 - q * (s.clock c).set.step) with
      | .refused code => .error code
      | .passed b hold =>
        .ok
          { desk := d, buyer := some b, position := q
            price := (s.clock c).startPrice.getD 0 - q * (s.clock c).set.step, hold := hold, given := none } := by
  refine (if_neg (by simp [hm])).trans ?_
  rw [hl]
  dsimp only [Option.bind_some]
  rw [hr] <;> rfl

/-- A desk whose buyer passes every test (R97, R98). -/
theorem State.judgeWinner_passes {d q l b : Nat} {r : LotRec} (hm : (s.clock c).rehearsalRun = false)
    (hl : (s.clock c).lot = some l) (hr : s.lot l = some r) (hb : (s.desk d).buyer = some b)
    (ha : (s.acct b).state = .active) (ho : (s.acct b).isOver = false)
    (hcredit : creditPasses (s.acct b) (s.lotWinner c d q b r).hold = true) :
    s.judgeWinner c d q = .ok (s.lotWinner c d q b r) := by
  have hjudge : s.judgeBuyer d r ((s.clock c).startPrice.getD 0 - q * (s.clock c).set.step) =
      .passed b (s.lotWinner c d q b r).hold := by
    unfold State.judgeBuyer
    rw [hb]
    exact (if_neg (not_not.2 ha)).trans ((if_neg (by simp [ho])).trans (if_pos hcredit))
  rw [State.judgeWinner_lot hm hl hr, hjudge]
  rfl

/-- A desk or a buyer that fails a test (R97, R98). -/
theorem State.judgeWinner_fails {d q l : Nat} {r : LotRec} {code : DeskCode} (hm : (s.clock c).rehearsalRun = false)
    (hl : (s.clock c).lot = some l) (hr : s.lot l = some r)
    (h : s.StopFails d r ((s.clock c).startPrice.getD 0 - q * (s.clock c).set.step) code) :
    s.judgeWinner c d q = .error code := by
  have hjudge : s.judgeBuyer d r ((s.clock c).startPrice.getD 0 - q * (s.clock c).set.step) = .refused code := by
    unfold State.judgeBuyer
    rcases h with ⟨hb, rfl⟩ | ⟨b, hb, ⟨ha, rfl⟩ | ⟨ha, rfl, h⟩⟩ <;> rw [hb]
    · exact if_pos ha
    · refine (if_neg (not_not.2 ha)).trans ?_
      rcases h with h | h
      · exact if_pos h
      · by_cases ho : (s.acct b).isOver = true
        · exact if_pos ho
        · exact (if_neg ho).trans (if_neg (by rw [← Bool.not_eq_true] at h; exact h))
  rw [State.judgeWinner_lot hm hl hr, hjudge]

/-! ## Taking a stop (R99, R101) -/

/-- A stop of a run of a lot that is taken: the winner record, the settle timer and the hold (R99, R136). -/
theorem State.takeStop_lot {w : Winner} {b : Nat} (hw : w.buyer = some b) (h0 : 0 ≤ (s.acct b).heldAmt)
    (hsum : (s.acct b).heldAmt + w.hold ≤ 140737488355327) :
    s.takeStop c w =
      ((s.setClock c
        { s.clock c with
          state := .settling, winner := some w, waitHalt := none
          timer := some (s.clock c).set.settle }).setAcct b
        { s.acct b with heldAmt := (s.acct b).heldAmt + w.hold }).answerAt (s.clock c) c w.desk .accepted w.position := by
  unfold State.takeStop State.placeWinner
  dsimp only
  rw [hw]
  dsimp only
  generalize hx : s.setClock c _ = x
  have hacct : x.acct b = s.acct b := by rw [← hx]; rfl
  rw [State.placeHold_eq x b w.hold (by rw [hacct]; exact h0) (by rw [hacct]; exact hsum), hacct]
  have hclock : (x.setAcct b { s.acct b with heldAmt := (s.acct b).heldAmt + w.hold }).clock c = _ :=
    (congrArg (State.clock · c) hx.symm).trans (s.setClock_clock_same c _)
  exact State.replyAt_answerAt (by rw [hclock]) (by rw [hclock]) (by rw [hclock]) ..

theorem State.releaseHold_clock (b hold d : Nat) : (s.releaseHold b hold).clock d = s.clock d := by
  obtain ⟨x, p, h⟩ := s.book_frame b (lessHold (s.acct b) hold) false false true
  unfold State.releaseHold
  rw [h]
  rfl

theorem State.releaseHold_acct_other {b k : Nat} (h : k ≠ b) (hold : Nat) :
    (s.releaseHold b hold).acct k = s.acct k := State.book_acct_other h ..

/-- The winner of a run of a lot is replaced: the old hold is released, the new one placed (R101, R136). -/
theorem State.replaceWinner_lot {old w : Winner} {ob b : Nat} (ho : old.buyer = some ob) (hw : w.buyer = some b)
    (hne : ob ≠ b) (h0 : 0 ≤ (s.acct b).heldAmt) (hsum : (s.acct b).heldAmt + w.hold ≤ 140737488355327) :
    s.replaceWinner c old w =
      ((((s.releaseHold ob old.hold).setAcct b
        { s.acct b with heldAmt := (s.acct b).heldAmt + w.hold }).setClock c
        { s.clock c with winner := some w }).answerAt (s.clock c) c old.desk .outbid w.position).answerAt (s.clock c) c
        w.desk .accepted w.position := by
  unfold State.replaceWinner State.placeWinner State.releaseWinner
  dsimp only
  rw [ho, hw]
  dsimp only
  have hacct : (s.releaseHold ob old.hold).acct b = s.acct b := State.releaseHold_acct_other hne.symm _
  have hclock := State.releaseHold_clock (s := s) ob old.hold c
  generalize s.releaseHold ob old.hold = x at hacct hclock ⊢
  rw [State.placeHold_eq x b w.hold (by rw [hacct]; exact h0) (by rw [hacct]; exact hsum), hacct, State.setAcct_clock,
    hclock]
  have hset := State.setClock_clock_same
    (x.setAcct b { s.acct b with heldAmt := (s.acct b).heldAmt + w.hold }) c { s.clock c with winner := some w }
  rw [State.replyAt_answerAt (k := s.clock c) (by rw [State.replyAt_clock, hset]) (by rw [State.replyAt_clock, hset])
      (by rw [State.replyAt_clock, hset]),
    State.replyAt_answerAt (k := s.clock c) (by rw [hset]) (by rw [hset]) (by rw [hset])]

/-! ## A stop that waits (R77, R100) -/

theorem State.stopRunning_noPlace {w : Winner} {n : Nat} (hw : (s.clock c).waitHalt = none)
    (hp : (s.clock c).position = some n) (hno : s.NoPlace) :
    s.stopRunning c w =
      s.holdHalt c
        { reason := .stop, position := n, cause := none, candidate := some { w with hold := 0 }, replaced := none } := by
  unfold State.stopRunning State.offerHalt
  dsimp only
  rw [hw, show (s.clock c).position.getD 0 = n from congrArg (Option.getD · 0) hp, s.offer_of_noPlace _ hno]
  rfl

theorem State.stopRunning_runout {w : Winner} {n : Nat} {h : WaitHalt} (hw : (s.clock c).waitHalt = some h)
    (hr : h.reason = .runout) (hp : (s.clock c).position = some n) :
    s.stopRunning c w =
      s.holdHalt c
        { reason := .stop, position := n, cause := none, candidate := some { w with hold := 0 }
          replaced := some .runout } := by
  unfold State.stopRunning
  dsimp only
  rw [hw]
  dsimp only
  rw [hr, show (s.clock c).position.getD 0 = n from congrArg (Option.getD · 0) hp]
  rfl

theorem State.stopRunning_pause {w : Winner} {n : Nat} {h : WaitHalt} {x : PauseCause}
    (hw : (s.clock c).waitHalt = some h) (hr : h.reason = .pause) (hx : h.cause = some x)
    (hp : (s.clock c).position = some n) :
    s.stopRunning c w =
      (s.setPausePending c x).holdHalt c
        { reason := .stop, position := n, cause := none, candidate := some { w with hold := 0 }
          replaced := some .pause } := by
  unfold State.stopRunning
  dsimp only
  rw [hw]
  dsimp only
  rw [hr, show (s.clock c).position.getD 0 = n from congrArg (Option.getD · 0) hp, hx]
  rfl

theorem State.stopRunning_stop {w : Winner} {h : WaitHalt} (hw : (s.clock c).waitHalt = some h) (hr : h.reason = .stop) :
    s.stopRunning c w = s.holdHalt c { h with reason := .stop, candidate := some { w with hold := 0 } } := by
  unfold State.stopRunning
  dsimp only
  rw [hw]
  dsimp only
  rw [hr]
  dsimp only
  rw [← hr]
  rfl

/-- A halt that waits over pause-pending (R79, R100). -/
theorem State.holdHalt_setPausePending (c : Nat) (x : PauseCause) (w : WaitHalt) :
    (s.setPausePending c x).holdHalt c w =
      (s.setClock c { (s.clock c).pausing x with waitHalt := some w, timer := none }).joinWait (.clock c) .halt := by
  rw [State.setPausePending_eq]
  unfold State.holdHalt
  by_cases hpp : (s.clock c).pausePending = true
  · rw [if_pos hpp, show (s.clock c).pausing x = s.clock c from if_pos hpp]
  · rw [if_neg hpp, State.setClock_clock_same, State.setClock_setClock]

theorem State.joinWait_clock (who : Producer) (kind : WaitKind) (d : Nat) : (s.joinWait who kind).clock d = s.clock d := by
  unfold State.joinWait
  dsimp only
  split <;> rfl

theorem State.noPlace_of_line {u : State} (hout : u.line.outbound = s.line.outbound)
    (hsend : u.line.sending = s.line.sending) (h : s.NoPlace) : u.NoPlace where
  full := hout ▸ h.full
  kept := by
    have hkept := h.kept
    unfold State.headOnLine at hkept ⊢
    rwa [hout, hsend]

/-! ## A stop in a run of a lot (R97 to R101) -/

/-- A stop with no winner and no candidate before it that passes the tests. -/
theorem State.stopInRun_firstPasses {d q : Nat} {w : Winner} (hm : (s.clock c).rehearsalRun = false)
    (hq : (s.clock c).state = .running) (hw : (s.clock c).waitHalt.bind (·.candidate) = none)
    (hjudge : s.judgeWinner c d q = .ok w) : s.stopInRun c d q = s.stopRunning c w := by
  have hjoin := State.joinResponses_of_lot (d := d) hm
  rw [State.stopInRun_running (by rw [hjoin]; exact hq) (by rw [hjoin]; exact hw), hjoin, hjudge]

theorem State.stopInRun_firstFails {d q : Nat} {code : DeskCode} (hm : (s.clock c).rehearsalRun = false)
    (hq : (s.clock c).state = .running) (hw : (s.clock c).waitHalt.bind (·.candidate) = none)
    (hjudge : s.judgeWinner c d q = .error code) : s.stopInRun c d q = s.replyPlain c d code := by
  have hjoin := State.joinResponses_of_lot (d := d) hm
  rw [State.stopInRun_running (by rw [hjoin]; exact hq) (by rw [hjoin]; exact hw), hjoin, hjudge]

/-- The winner that a stop is judged against: the provisional winner, or the candidate of a waiting halt (R100, R101). -/
def Clock.against (k : Clock) : Option Winner :=
  if k.state = .settling then k.winner else k.waitHalt.bind (·.candidate)

theorem State.stopInRun_against {d q : Nat} {w : Winner} (hm : (s.clock c).rehearsalRun = false)
    (hq : (s.clock c).state = .running ∨ (s.clock c).state = .settling) (hw : (s.clock c).against = some w) :
    s.stopInRun c d q =
      if d = w.desk then s.replyAt c d .accepted q
      else if w.position ≤ q then s.replyAt c d .outbid w.position
      else
        match s.judgeWinner c d q with
        | .error code => s.replyPlain c d code
        | .ok x =>
          if (s.clock c).state = .settling then s.replaceWinner c w x
          else (s.stopRunning c x).replyAt c w.desk .outbid x.position := by
  have hjoin := State.joinResponses_of_lot (d := d) hm
  rcases hq with hq | hq
  · have hw' : (s.clock c).waitHalt.bind (·.candidate) = some w := (if_neg (by rw [hq]; decide)).symm.trans hw
    rw [State.stopInRun_candidate (by rw [hjoin]; exact hq) (by rw [hjoin]; exact hw'), hjoin, hq]
    rfl
  · have hw' : (s.clock c).winner = some w := (if_pos hq).symm.trans hw
    rw [State.stopInRun_settling (by rw [hjoin]; exact hq) (by rw [hjoin]; exact hw'), hjoin, hq]
    rfl

end Sys2Proof.Machine

namespace Sys2Proof.Proofs

open Machine

/-- A STOP frame of the clock's run that is not LATE comes to the judging of the stop (R94 to R96). -/
theorem exec_stop_inRun {s : State} {f : DeskFrame} {rest : List DeskFrame} {c pos d n : Nat} (hon : s.isOn = true)
    (hin : s.line.inbound = f :: rest) (hc : c < 6) (hf : readDesk f = .stop c pos d (s.clock c).tag)
    (hq : (s.clock c).state = .running ∨ (s.clock c).state = .settling) (hp : (s.clock c).position = some n)
    (hgrace : n ≤ min pos n + (s.clock c).set.grace) :
    exec .stop s =
      .next (({ s with line := { s.line with inbound := rest } } : State).stopInRun c d (min pos n)) := by
  rw [exec_stop ((State.turn_of_head hon hin).trans (congrArg some hf)), State.handOn_eq hin]
  exact congrArg _ (State.takeStopFrame_inRun (s := { s with line := { s.line with inbound := rest } }) hc hq hp hgrace)

/-- Settles O48: a stop by the clock's state, its winner and its waiting halt. -/
theorem stopsTakeTheClock : Obligations.StopsTakeTheClock := by
  constructor
  · intro s f rest c pos d b l n r hon hin hc hf k a q price hold w u answer waiting hm hp hgrace hl hr hb ha ho hcredit
      hsum h0
    have hjudge : u.judgeWinner c d q = .ok w := State.judgeWinner_passes (s := u) hm hl hr hb ha ho hcredit
    have hrun (hq : k.state = .running ∨ k.state = .settling) : exec .stop s = .next (u.stopInRun c d q) :=
      exec_stop_inRun hon hin hc hf hq hp hgrace
    refine ⟨fun v hq hw hv => ?_, fun old ob hq hw hne hlt hob hdiff => ?_,
      fun hq => ⟨fun hw hno => ?_, fun h hw => ⟨fun hr hcand => ?_, fun x hr hcand hx => ?_,
        fun old hr hcand hne hlt => ?_⟩⟩⟩
    · refine (hrun (.inl hq)).trans (congrArg _ ?_)
      have hclock := State.placed_clock hv c
      have hacct : v.acct b = a := by
        obtain ⟨x, y, rfl⟩ := State.placed_frame hv
        rfl
      rw [State.stopInRun_firstPasses (s := u) hm hq (by rw [show (u.clock c).waitHalt = none from hw]; rfl) hjudge,
        State.stopRunning_placed (s := u) hw hp hv,
        State.takeStop_lot (s := v) (b := b) rfl (by rw [hacct]; exact h0) (by rw [hacct]; exact hsum), hclock, hacct]
      rfl
    · refine (hrun (.inr hq)).trans (congrArg _ ?_)
      rw [State.stopInRun_against (s := u) (w := old) hm (.inr hq) ((if_pos hq).trans hw), hjudge, if_neg hne.symm,
        if_neg (Nat.not_le.2 hlt)]
      exact (if_pos hq).trans (State.replaceWinner_lot (s := u) hob rfl hdiff h0 hsum)
    · refine (hrun (.inl hq)).trans (congrArg _ ?_)
      rw [State.stopInRun_firstPasses (s := u) hm hq (by rw [show (u.clock c).waitHalt = none from hw]; rfl) hjudge]
      exact State.stopRunning_noPlace (s := u) hw hp (State.noPlace_of_line (s := s) rfl rfl hno)
    · refine (hrun (.inl hq)).trans (congrArg _ ?_)
      rw [State.stopInRun_firstPasses (s := u) hm hq (by rw [show (u.clock c).waitHalt = some h from hw]; exact hcand)
        hjudge]
      exact State.stopRunning_runout (s := u) hw hr hp
    · refine (hrun (.inl hq)).trans (congrArg _ ?_)
      rw [State.stopInRun_firstPasses (s := u) hm hq (by rw [show (u.clock c).waitHalt = some h from hw]; exact hcand)
        hjudge]
      exact (State.stopRunning_pause (s := u) (w := w) hw hr hx hp).trans (State.holdHalt_setPausePending ..)
    · refine (hrun (.inl hq)).trans (congrArg _ ?_)
      have hagainst : (u.clock c).against = some old := by
        refine (if_neg (by rw [show (u.clock c).state = .running from hq]; decide)).trans ?_
        rw [show (u.clock c).waitHalt = some h from hw]
        exact hcand
      rw [State.stopInRun_against (s := u) (w := old) hm (.inl hq) hagainst, hjudge, if_neg hne.symm,
        if_neg (Nat.not_le.2 hlt)]
      refine (if_neg (by rw [show (u.clock c).state = .running from hq]; decide)).trans ?_
      rw [State.stopRunning_stop (s := u) hw hr]
      have hclock : (u.holdHalt c { h with reason := .stop, candidate := some { w with hold := 0 } }).clock c = _ :=
        (State.joinWait_clock ..).trans (u.setClock_clock_same c _)
      exact State.replyAt_answerAt (k := k) (by rw [hclock]; rfl) (by rw [hclock]; rfl) (by rw [hclock]; rfl) ..
  · intro s c b l n r h old k a price hold w hh hr hcand hroom hm hp hl hlot hb ha ho hcredit hsum h0
    have hjudge : s.judgeWinner c old.desk old.position = .ok w := State.judgeWinner_passes hm hl hlot hb ha ho hcredit
    rw [State.produce_halt hh, State.grantHalt_stop hr hcand hjudge hp hroom]
    exact State.takeStop_lot (s := s.haltSent c .stop n) (b := b) rfl h0 hsum

end Sys2Proof.Proofs
end

section
/-! Stops that are refused, and candidates that fail (R95 to R97, R100). -/

namespace Sys2Proof.Machine

set_option Elab.async false

variable {s : State} {t c : Nat}

/-- A STOP frame of another run tag, or for a clock that is in no run (R95). -/
theorem State.takeStopFrame_wrongRun {pos d tag : Nat} (hc : c < 6)
    (h : tag ≠ (s.clock c).tag ∨ (s.clock c).state = .idle ∨ (s.clock c).state = .loaded ∨
      (s.clock c).state = .restartWait) :
    s.takeStopFrame c pos d tag = s.offerReply d .wrongRun (some c) tag (.runTag (s.clock c).tag) := by
  refine (if_pos hc).trans ?_
  unfold State.judgeStop
  dsimp only
  by_cases ht : tag = (s.clock c).tag
  · rw [if_neg (not_not.2 ht)]
    rcases h with h | h | h | h
    · exact absurd ht h
    all_goals rw [h]
  · rw [if_pos ht]

theorem State.takeStopFrame_held {pos d : Nat} (hc : c < 6) (h : (s.clock c).state = .held) :
    s.takeStopFrame c pos d (s.clock c).tag = s.offerReply d .taken (some c) (s.clock c).tag .nothing := by
  refine (if_pos hc).trans ?_
  unfold State.judgeStop
  dsimp only
  rw [if_neg (not_not.2 rfl), h]
  rfl

theorem State.takeStopFrame_paused {pos d n : Nat} (hc : c < 6) (h : (s.clock c).state = .paused)
    (hp : (s.clock c).position = some n) :
    s.takeStopFrame c pos d (s.clock c).tag = s.replyAt c d .paused n := by
  refine (if_pos hc).trans ?_
  unfold State.judgeStop
  dsimp only
  rw [if_neg (not_not.2 rfl), h]
  dsimp only
  rw [hp]
  rfl

/-! ## A candidate that fails when its place comes (R100) -/

/-- The place of a candidate that fails (R100). -/
theorem State.grantHalt_fails {h : WaitHalt} {n : Nat} {old : Winner} {code : DeskCode} (hr : h.reason = .stop)
    (hold : h.candidate = some old) (hw : s.judgeWinner c old.desk old.position = .error code)
    (hp : (s.clock c).position = some n) (hroom : s.line.outbound.length < 16) :
    s.grantHalt c h =
      (if h.replaced = some .runout then (s.haltSent c .runout n).takeRunout c
        else if (s.clock c).pausePending then
          (s.haltSent c .pause n).takePause c ((s.clock c).cause.getD .auctioneer) true
        else s.setClock c { s.clock c with waitHalt := none, timer := some (s.clock c).set.interval }).offerReply
        old.desk code (some c) (s.clock c).tag .nothing := by
  unfold State.grantHalt State.rejudgeStop
  rw [hr]
  dsimp only
  rw [hold]
  dsimp only
  rw [hw]
  dsimp only
  rw [s.offerHalt_of_room c n .runout hroom hp, s.offerHalt_of_room c n .pause hroom hp]
  by_cases h1 : h.replaced = some .runout
  · rw [if_pos h1, if_pos h1]
    rfl
  · rw [if_neg h1, if_neg h1]
    by_cases h2 : (s.clock c).pausePending = true
    · rw [if_pos h2, if_pos h2]
      rfl
    · rw [if_neg h2, if_neg h2]

end Sys2Proof.Machine

namespace Sys2Proof.Proofs

open Machine

/-- Settles O49: the refusals of a STOP frame in their order, and the failing candidate by what it had displaced. -/
theorem stopsThatAreNotTaken : Obligations.StopsThatAreNotTaken := by
  refine ⟨?_, ?_, ?_⟩
  · intro s f rest c pos d tag hon hin hc hf
    rw [exec_stop ((State.turn_of_head hon hin).trans (congrArg some hf)), State.handOn_eq hin]
    exact congrArg _ (if_neg (Nat.not_lt.2 hc))
  · intro s f rest c pos d tag hon hin hc hf k u answer at' against
    have hexec : exec .stop s = .next (u.takeStopFrame c pos d tag) := by
      rw [exec_stop ((State.turn_of_head hon hin).trans (congrArg some hf)), State.handOn_eq hin]
    refine ⟨fun h => hexec.trans (congrArg _ (State.takeStopFrame_wrongRun (s := u) hc h)), fun ht hq => ?_,
      fun n ht hq hp => ?_, ?_⟩
    · subst ht
      exact hexec.trans (congrArg _ (State.takeStopFrame_held (s := u) hc hq))
    · subst ht
      exact hexec.trans (congrArg _ (State.takeStopFrame_paused (s := u) hc hq hp))
    · intro n ht hq hp q
      subst ht
      refine ⟨fun hlate => hexec.trans (congrArg _ (State.takeStopFrame_late (s := u) hc hq hp hlate)), fun hgrace hm => ?_⟩
      have hrun : exec .stop s = .next (u.stopInRun c d q) := exec_stop_inRun hon hin hc hf hq hp hgrace
      refine ⟨fun w hw => ?_, ?_⟩
      · have hagainst := State.stopInRun_against (s := u) (d := d) (q := q) hm hq hw
        exact ⟨fun hd => hrun.trans (congrArg _ (hagainst.trans (if_pos hd.symm))),
          fun hd hle => hrun.trans (congrArg _ (hagainst.trans ((if_neg (Ne.symm hd)).trans (if_pos hle))))⟩
      · intro l r hl hr hwho code hfails
        have hjudge : u.judgeWinner c d q = .error code := State.judgeWinner_fails (s := u) hm hl hr hfails
        refine hrun.trans (congrArg _ ?_)
        rcases hwho with ⟨hq, hnone⟩ | ⟨w, hw, hd, hlt⟩
        · have hcand : (u.clock c).waitHalt.bind (·.candidate) = none :=
            (if_neg (by rw [hq]; decide)).symm.trans hnone
          exact State.stopInRun_firstFails (s := u) hm hq hcand hjudge
        · rw [State.stopInRun_against (s := u) hm hq hw, if_neg (Ne.symm hd), if_neg (Nat.not_le.2 hlt), hjudge]
          rfl
  · intro s c l n r h old code k answer hh hr hcand hm hp hl hlot hroom hfails
    have hjudge : s.judgeWinner c old.desk old.position = .error code := State.judgeWinner_fails hm hl hlot hfails
    have hgrant := (State.produce_halt hh).trans (State.grantHalt_fails hr hcand hjudge hp hroom)
    refine ⟨fun h1 => ?_, fun x h1 h2 hx => ?_, fun h1 h2 => ?_⟩
    · rw [hgrant, if_pos h1]
    · rw [hgrant, if_neg h1, if_pos h2, State.takePause_lot (s := s) (v := s.haltSent c .pause n) rfl hm hp,
        show (s.clock c).cause.getD .auctioneer = x from congrArg (Option.getD · _) hx]
      rfl
    · rw [hgrant, if_neg h1, if_neg (by rw [show (s.clock c).pausePending = false from h2]; decide)]

end Sys2Proof.Proofs
end

section
/-! A run-out: the count, the re-offer or the closure, and the clock that lets go (R76, R77, R7, R9, R59, R68). -/

namespace Sys2Proof.Machine

set_option Elab.async false

variable {s : State} {t c : Nat}

/-- The part with the clocks and the journal of `g`. -/
def State.withClocks (s g : State) : State := { s with clocks := g.clocks, journal := g.journal }

theorem State.raise_withClocks (g : State) (p : Port) (n : Notice) (d : Detail) :
    (s.withClocks g).raise p n d = (s.raise p n d).withClocks g := by
  obtain ⟨x, hx, -⟩ := s.raise_ports p n d
  calc
    (s.withClocks g).raise p n d = { s.withClocks g with ports := (s.raise p n d).ports } :=
      State.raise_of_ports (s := s) (u := s.withClocks g) rfl p n d
    _ = (s.raise p n d).withClocks g := by
      rw [hx]
      rfl

/-- The report of a closure looks at no clock and no journal (R8, R42). -/
theorem State.reportClosure_withClocks (g : State) (n : Option Nat) :
    (s.withClocks g).reportClosure n = (s.reportClosure n).withClocks g := by
  unfold State.reportClosure
  cases n with
  | none => rfl
  | some n =>
    refine (if_congr Iff.rfl ?_ rfl).trans (apply_ite (State.withClocks · g) _ _ _).symm
    rw [State.clearTrain_eq, State.clearTrain_eq]
    have hraise := State.raise_withClocks (s := s.setTrain n { s.train n with state := .cleared }) g .yrd .trainCleared
      (.number n)
    dsimp only
    rw [show (s.withClocks g).setTrain n { (s.withClocks g).train n with state := .cleared } =
      (s.setTrain n { s.train n with state := .cleared }).withClocks g from rfl, hraise,
      show ((s.withClocks g).train n).clock = (s.train n).clock from rfl]
    generalize (s.setTrain n { s.train n with state := .cleared }).raise .yrd .trainCleared (.number n) = z
    generalize (s.train n).clock = d
    cases d with
    | none => rfl
    | some d =>
      dsimp only
      by_cases hd : (s.presOf d).train = some n
      · refine (if_pos hd).trans ?_
        rw [if_pos hd]
        rfl
      · exact (if_neg hd).trans (congrArg (State.withClocks · g) (if_neg hd)).symm

theorem State.giveUpReservation_withClocks (c : Nat) :
    s.giveUpReservation c = s.withClocks (s.giveUpReservation c) := by
  obtain ⟨j, k, h⟩ := s.giveUpReservation_frame c
  rw [h]
  rfl

/-! ## The lot's part (R9, R59) -/

/-- The lot after a run-out that is within its limit: re-offered at the tail of the clock's queue (R59). -/
def State.reOffered (s : State) (c l : Nat) (r : LotRec) : State :=
  (s.setLot l (some { r with runouts := r.runouts + 1, state := .queued })).setPres c (joinTail l (s.presOf c))

/-- The lot after a run-out that closes it, with its closure reported (R7, R8). -/
def State.ranOut (s : State) (l : Nat) (r : LotRec) : State :=
  (s.setLot l (some
    { r with
      runouts := r.runouts + 1, state := if r.purchases = [] then .unsold else .partSold, clock := none
      })).reportClosure r.train

theorem closedState_unsold {w : CloseWay} (h : w = .runout ∨ w = .crowded) (r : LotRec) :
    closedState w r = if r.purchases = [] then .unsold else .partSold := by
  unfold closedState
  rcases h with rfl | rfl <;> cases r.purchases <;> rfl

theorem State.closeLot_ranOut {w : CloseWay} (h : w = .runout ∨ w = .crowded) (l : Nat) (r : LotRec) :
    (s.setLot l (some { r with runouts := r.runouts + 1 })).closeLot l w = s.ranOut l r := by
  rw [State.closeLot_eq w (s.setLot_lot_same l _), State.setLot_setLot, closedState_unsold h]
  rfl

/-- A full queue is not filled (R48). -/
theorem State.fill_of_full (h : 8 ≤ (s.presOf c).queue.length) : s.fill c = s := by
  unfold State.fill Config.queueSize
  unfold State.fillUpTo
  dsimp only
  split
  · rfl
  · exact if_neg (Nat.not_lt.2 h)

theorem State.ranOut_queue (l : Nat) (r : LotRec) (d : Nat) :
    ((s.ranOut l r).presOf d).queue = (s.presOf d).queue := by
  obtain ⟨x, hx⟩ := State.reportClosure_presOf
    (s := s.setLot l (some
      { r with
        runouts := r.runouts + 1, state := if r.purchases = [] then .unsold else .partSold, clock := none }))
    r.train d
  unfold State.ranOut
  rw [hx]
  rfl

theorem State.runoutLot_within {l : Nat} {r : LotRec} (hr : s.lot l = some r) (hlimit : r.runouts + 1 ≤ r.reofferLimit)
    (hroom : (s.presOf c).queue.length < 8) : s.runoutLot c l = s.reOffered c l r := by
  unfold State.runoutLot
  rw [hr]
  refine (if_pos (decide_eq_true hlimit)).trans ((if_pos hroom).trans ?_)
  unfold State.setLotState State.updLot
  rw [State.setLot_lot_same]
  dsimp only
  rw [State.setLot_setLot]
  rfl

theorem State.runoutLot_closes {l : Nat} {r : LotRec} (hr : s.lot l = some r)
    (h : r.reofferLimit < r.runouts + 1 ∨ 8 ≤ (s.presOf c).queue.length) : s.runoutLot c l = s.ranOut l r := by
  unfold State.runoutLot
  rw [hr]
  by_cases hlimit : r.runouts + 1 ≤ r.reofferLimit
  · have hfull : 8 ≤ (s.presOf c).queue.length := h.resolve_left (Nat.not_lt.2 hlimit)
    refine (if_pos (decide_eq_true hlimit)).trans ((if_neg (Nat.not_lt.2 hfull)).trans ?_)
    refine (congrArg (State.fill · c) (State.closeLot_ranOut (.inr rfl) l r)).trans ?_
    exact State.fill_of_full (by rw [State.ranOut_queue]; exact hfull)
  · exact (if_neg (by simpa using hlimit)).trans (State.closeLot_ranOut (.inl rfl) l r)

theorem State.ranOut_withClocks (g : State) (l : Nat) (r : LotRec) :
    (s.withClocks g).ranOut l r = (s.ranOut l r).withClocks g :=
  State.reportClosure_withClocks
    (s := s.setLot l (some
      { r with
        runouts := r.runouts + 1, state := if r.purchases = [] then .unsold else .partSold, clock := none }))
    g r.train

theorem State.ranOut_frame (l : Nat) (r : LotRec) :
    ∃ x y p o, s.ranOut l r = { s with lots := x, yard := y, pres := p, ports := o } := by
  obtain ⟨y, p, o, h⟩ := State.reportClosure_frame
    (s := s.setLot l (some
      { r with
        runouts := r.runouts + 1, state := if r.purchases = [] then .unsold else .partSold, clock := none }))
    r.train
  exact ⟨_, _, p, o, h⟩

/-- What a run-out makes of the lot, on the part as the placing of the HALT frame left it. -/
theorem State.runoutLot_cases {l : Nat} {r : LotRec} (hr : s.lot l = some r) :
    ∃ y, (s.giveUpReservation c).runoutLot c l = y.withClocks (s.giveUpReservation c) ∧
      (∃ x z p o, y = { s with lots := x, yard := z, pres := p, ports := o }) ∧
      (r.runouts + 1 ≤ r.reofferLimit → (s.presOf c).queue.length < 8 → y = s.reOffered c l r) ∧
      (r.reofferLimit < r.runouts + 1 ∨ 8 ≤ (s.presOf c).queue.length → y = s.ranOut l r) := by
  rw [State.giveUpReservation_withClocks]
  generalize s.giveUpReservation c = g
  by_cases h : r.reofferLimit < r.runouts + 1 ∨ 8 ≤ (s.presOf c).queue.length
  · refine ⟨s.ranOut l r, ?_, State.ranOut_frame l r, fun h1 h2 => ?_, fun _ => rfl⟩
    · exact (State.runoutLot_closes (s := s.withClocks g) hr h).trans (State.ranOut_withClocks g l r)
    · exact absurd h (by omega)
  · exact ⟨s.reOffered c l r, State.runoutLot_within (s := s.withClocks g) hr (by omega) (by
      change (s.presOf c).queue.length < 8
      omega), ⟨_, _, _, _, rfl⟩, fun _ _ => rfl, fun hc => absurd hc h⟩

/-! ## The clock's part (R68, R76) -/

theorem State.takeRunout_lot {l : Nat} (hm : (s.clock c).rehearsalRun = false) (hl : (s.clock c).lot = some l) :
    s.takeRunout c =
      let x := ((s.giveUpReservation c).runoutLot c l).letGo c
      (x.setClock c { x.clock c with pausePending := false, cause := none }).raise .auc .clockRunout (.number c) := by
  refine (if_neg (by simp [hm])).trans ?_
  rw [hl]

/-- The part after a run-out whose lot's part leaves `y`. -/
theorem State.takeRunout_leaves {l : Nat} {y : State} (hm : (s.clock c).rehearsalRun = false)
    (hl : (s.clock c).lot = some l)
    (hy : (s.giveUpReservation c).runoutLot c l = y.withClocks (s.giveUpReservation c)) :
    let u := s.takeRunout c
    u.lots = y.lots ∧ u.yard = y.yard ∧
      u.presOf c = { y.presOf c with current := none, unrun := false, pending := none, letGo := some 0 } ∧
      (∀ d, d ≠ c → u.presOf d = y.presOf d) ∧ u.port .yrd = y.port .yrd ∧
      u.clock c = { (s.clock c).released with pausePending := false, cause := none, reserved := false } ∧
      (∀ d, d ≠ c → u.clock d = s.clock d) ∧
      u.values = { s.values with reserved := s.values.reserved - if (s.clock c).reserved then 1 else 0 } ∧
      u.line = y.line ∧ (u.flag .auc 3).pending = true ∧ (u.flag .auc 3).detail = .number c ∧
      u.accounts = y.accounts ∧ u.desks = y.desks ∧ u.journal.places = s.journal.places := by
  intro u
  have hgc := s.giveUpReservation_clock c
  have hgd := fun d (hd : d ≠ c) => State.giveUpReservation_others (s := s) hd
  have hgv := State.giveUpReservation_allValues (s := s) c
  have hgp := State.giveUpReservation_places (s := s) c
  have hu : u = _ := State.takeRunout_lot hm hl
  rw [hy] at hu
  generalize s.giveUpReservation c = g at hgc hgd hgv hgp hu
  have hletc := State.letGo_clock (s := y.withClocks g) c
  have hletd := fun d (hd : d ≠ c) => State.letGo_others (s := y.withClocks g) hd
  have hpres := State.letGo_presOf (s := y.withClocks g) c
  dsimp only at hu
  rw [hletc] at hu
  obtain ⟨k, p, hlet⟩ := State.letGo_frame (s := y.withClocks g) c
  have hpresd : ∀ d, d ≠ c → ((y.withClocks g).letGo c).presOf d = y.presOf d := fun d hd =>
    (State.setPres_presOf _ c d _).trans (if_neg hd)
  generalize (y.withClocks g).letGo c = x at hletc hletd hpres hlet hpresd hu
  rw [State.raise_eq _ _ _ _ (by decide)] at hu
  have hclock : u.clock c = { ((y.withClocks g).clock c).released with pausePending := false, cause := none } := by
    rw [hu]
    exact x.setClock_clock_same c _
  have hclockd : ∀ d, d ≠ c → u.clock d = x.clock d := fun d hd => by
    rw [hu]
    exact (State.setClock_clock x c d _).trans (if_neg hd)
  have hflag : (u.flag .auc 3).pending = true ∧ (u.flag .auc 3).detail = .number c := by
    rw [hu, State.setFlag_flag, if_pos ⟨rfl, rfl⟩]
    exact ⟨rfl, rfl⟩
  refine ⟨?_, ?_, ?_, fun d hd => ?_, ?_, ?_, fun d hd => ?_, ?_, ?_, hflag.1, hflag.2, ?_, ?_, ?_⟩
  · rw [hu, hlet]; rfl
  · rw [hu, hlet]; rfl
  · rw [hu]; exact hpres
  · rw [hu]; exact hpresd d hd
  · rw [hu, hlet]; rfl
  · rw [hclock, show (y.withClocks g).clock c = g.clock c from rfl, hgc]
    rfl
  · rw [hclockd d hd, hletd d hd]
    exact hgd d hd
  · rw [hu, hlet]; exact hgv
  · rw [hu, hlet]; rfl
  · rw [hu, hlet]; rfl
  · rw [hu, hlet]; rfl
  · rw [hu, hlet]; exact hgp

theorem exec_stepTimerExpiry_noPlace {n : Nat} (hon : s.isOn = true) (hq : (s.clock c).state = .running)
    (ht : (s.clock c).timer = some 0) (hp : (s.clock c).position = some n)
    (hmay : 99 < n + 1 ∨ (s.clock c).startPrice.getD 0 < (s.clock c).reserve.getD 0 + (n + 1) * (s.clock c).set.step)
    (hno : s.NoPlace) (hwait : s.NotWaiting c) :
    exec (.stepTimerExpiry c) s =
      .next ((s.setClock c
        { s.clock c with
          waitHalt := some { reason := .runout, position := n, cause := none, candidate := none, replaced := none }
          timer := none }).setWaits (s.line.waits ++ [{ who := .clock c, kind := .halt }])) := by
  change Host.Outcome.next (if s.timeUp c .running then if mayStep (s.clock c) then s.stepOn c else s.runOut c else s) = _
  rw [if_pos ((State.timeUp_iff hon c _).2 ⟨hq, ht⟩), mayStep_eq_false hp hmay]
  unfold State.runOut State.offerHalt
  dsimp only
  rw [s.offer_of_noPlace _ hno, show (s.clock c).position.getD 0 = n from congrArg (Option.getD · 0) hp]
  exact congrArg _ (State.joinWait_of_notWaiting _ c .halt hwait)

end Sys2Proof.Machine

namespace Sys2Proof.Proofs

open Machine

/-- Settles O54: the lot's part by its limit and the queue, and the clock's part in each case. -/
theorem runOutCountsAndReOffers : Obligations.RunOutCountsAndReOffers := by
  intro s c n l r hc k hm hp hl hr due
  refine ⟨fun v hv => ?_, fun hno hwait ⟨hon, hq, ht, hmay⟩ =>
    exec_stepTimerExpiry_noPlace hon hq ht hp hmay hno hwait⟩
  intro u closed
  have hclock := State.placed_clock hv
  have hoffer := s.offerHalt_of_placed hv hp
  obtain ⟨q, p, hv'⟩ := State.placed_frame hv
  have hlot : v.lot l = some r := by rw [hv']; exact hr
  have hlots : ∀ z, (v.setLot l z).lots = (s.setLot l z).lots := fun z => by rw [hv']; rfl
  have hyrd : v.port .yrd = s.port .yrd ∧ v.yard = s.yard ∧ v.accounts = s.accounts ∧ v.desks = s.desks ∧
      v.journal.places = s.journal.places ∧ v.values = s.values := by
    rw [hv']
    exact ⟨rfl, rfl, rfl, rfl, rfl, rfl⟩
  obtain ⟨hport, hyard, haccounts, hdesks, hplaces, hvalues⟩ := hyrd
  obtain ⟨y, hy, ⟨y1, y2, y3, y4, hframe⟩, hwithin, hcloses⟩ := State.runoutLot_cases (s := v) (c := c) hlot
  obtain ⟨h1, h2, h3, h4, h5, h6, h7, h8, h9, h10, h11, h12, h13, h14⟩ :=
    State.takeRunout_leaves (s := v) (by rw [hclock]; exact hm) (by rw [hclock]; exact hl) hy
  rw [hclock, hvalues] at h8
  rw [hclock] at h6
  have hline : y.line = v.line ∧ y.accounts = v.accounts ∧ y.desks = v.desks := by
    rw [hframe]
    exact ⟨rfl, rfl, rfl⟩
  obtain ⟨hyline, hyaccounts, hydesks⟩ := hline
  refine ⟨fun ⟨hon, hq, ht, hmay⟩ => exec_stepTimerExpiry_runOut hon hq ht hp hmay hv, fun h hh hreason => ?_,
    fun hlimit hroom => ?_, fun h => ?_, h6, fun d hd => (h7 d hd).trans (hclock d), h8, h9.trans hyline, h10, h11,
    h12.trans (hyaccounts.trans haccounts), h13.trans (hydesks.trans hdesks), h14.trans hplaces⟩
  · rw [State.produce_halt hh]
    unfold State.grantHalt
    rw [hreason]
    dsimp only
    rw [hoffer]
    rfl
  · have hy' := hwithin hlimit hroom
    rw [hy'] at h1 h2 h3 h4 h5
    refine ⟨h1.trans (hlots (some { r with runouts := r.runouts + 1, state := .queued })), h2.trans hyard, h3.trans ?_, fun d hd => (h4 d hd).trans ?_, h5.trans hport⟩
    · unfold State.reOffered
      rw [State.setPres_presOf_same]
      rfl
    · exact (State.setPres_presOf _ c d _).trans (if_neg hd)
  · have hy' := hcloses h
    rw [hy'] at h1 h2 h3 h4 h5
    exact ⟨h1, h2, h3, h4, h5⟩

end Sys2Proof.Proofs
end

section
/-! The commit of a sale (R106 to R111, R79, R137). -/

namespace Sys2Proof.Machine

set_option Elab.async false

variable {s : State} {t c : Nat}

/-! ## The account's part (R110, R121, R130) -/

theorem State.book_accounts (b : Nat) (a : Account) (sat maySet mayClear : Bool) :
    ∃ x y, (s.book b a sat maySet mayClear).accounts = (s.setAcct b { a with saturated := x, isOver := y }).accounts ∧
      (maySet = true → a.limit < exposureExact a → y = true) := by
  unfold State.book
  dsimp only
  by_cases h : (sat || maySet && decide (a.limit < exposureExact a)) = true
  · rw [if_pos h, if_pos h]
    refine ⟨a.saturated || sat, true, ?_, fun _ _ => rfl⟩
    unfold State.raiseOver
    generalize s.setAcct b _ = z
    obtain ⟨x, hx, -⟩ := z.raise_ports .sup .accountOver (.number b)
    obtain ⟨y, hy, -⟩ := (z.raise .sup .accountOver (.number b)).raise_ports .fin .accountOver (.number b)
    rw [hy, hx]
  · rw [if_neg h, if_neg h]
    refine ⟨a.saturated || sat, _, rfl, fun h1 h2 => absurd ?_ h⟩
    rw [h1, decide_eq_true h2, Bool.true_and, Bool.or_true]

/-- A purchase that is booked (R110); a DAMAGED account is booked nothing (R137). -/
theorem State.bookPurchase_accounts (b hold net seq : Nat) :
    ∃ z, (s.bookPurchase b hold net seq).accounts = (s.setAcct b z).accounts ∧
      z.heldAmt = max 0 ((s.acct b).heldAmt - hold) ∧ z.billedAmt = (s.acct b).billedAmt ∧
      z.limit = (s.acct b).limit ∧ z.desk = (s.acct b).desk ∧
      ((s.acct b).state ≠ .damaged →
        z.openAmt = saturate ((s.acct b).openAmt + (net : Int)) ∧ z.lastSeq = some seq ∧
        z.entryCount = min ((s.acct b).entryCount + 1) 4294967295 ∧
        (z.limit < z.openAmt + z.billedAmt + z.heldAmt → z.isOver = true)) ∧
      ((s.acct b).state = .damaged →
        z.openAmt = (s.acct b).openAmt ∧ z.lastSeq = (s.acct b).lastSeq ∧ z.entryCount = (s.acct b).entryCount) := by
  unfold State.bookPurchase
  by_cases h : (s.acct b).state = .damaged
  · rw [if_pos h]
    obtain ⟨x, y, hb, -⟩ := State.book_accounts (s := s) b (lessHold (s.acct b) hold) false false true
    exact ⟨_, hb, rfl, rfl, rfl, rfl, fun hd => absurd h hd, fun _ => ⟨rfl, rfl, rfl⟩⟩
  · rw [if_neg h]
    obtain ⟨x, y, hb, hover⟩ := State.book_accounts (s := s) b
      (countEntry { lessHold (s.acct b) hold with
        openAmt := saturate ((lessHold (s.acct b) hold).openAmt + net) } seq)
      (overflows ((lessHold (s.acct b) hold).openAmt + net)) true true
    exact ⟨_, hb, rfl, rfl, rfl, rfl, fun _ => ⟨rfl, rfl, rfl, hover rfl⟩, fun hd => absurd hd h⟩

/-! ## The records of a commit (R110) -/

theorem State.lotCommit_lots (x : Sale) (p : Purchase) :
    (s.lotCommit x p).lots = (s.setLot x.lot (some (commitPurchase x.record p))).lots := by
  unfold State.lotCommit
  dsimp only
  split
  · obtain ⟨y, w, o, h⟩ := (s.setLot x.lot (some (commitPurchase x.record p))).reportClosure_frame
      (commitPurchase x.record p).train
    rw [h]
  · rfl

/-- The journal of a commit: the reservation is consumed and the entry appended (R110, R152). -/
theorem State.journalCommit_eq (c : Nat) (x : Sale) (q : Nat) :
    ∃ k o, s.journalCommit c x q =
      { s with journal := (s.journalCommit c x q).journal, clocks := k, ports := o } := by
  obtain ⟨j, k, h1⟩ := s.giveUpReservation_frame c
  obtain ⟨j', o, h2⟩ := (s.giveUpReservation c).append_frame (s.entryOf c x q)
  refine ⟨k, o, ?_⟩
  unfold State.journalCommit
  dsimp only
  rw [h2, h1]

theorem State.journalCommit_values (c : Nat) (x : Sale) (q : Nat) :
    (s.journalCommit c x q).values =
      { s.values with
        used := s.values.used + 1, newest := some s.nextSeq
        reserved := s.values.reserved - if (s.clock c).reserved then 1 else 0 } := by
  refine (State.append_values (s := s.giveUpReservation c) (s.entryOf c x q)).trans ?_
  rw [State.giveUpReservation_allValues]
  rfl

theorem State.journalCommit_place (c : Nat) (x : Sale) (q k : Nat) :
    (s.journalCommit c x q).place k =
      if k = (s.values.oldestPlace + s.values.used) % 8192 then
        some { s.entryOf c x q with check := entryCheck (s.entryOf c x q) }
      else s.place k := by
  refine (State.append_place (s := s.giveUpReservation c) (s.entryOf c x q) k).trans ?_
  rw [State.giveUpReservation_allValues]
  refine if_congr Iff.rfl rfl ?_
  exact congrArg (fun y => Tab.get none y k) (State.giveUpReservation_places c)

theorem State.commitRecords_others (x : Sale) (q : Nat) {d : Nat} (hd : d ≠ c) :
    (s.commitRecords c x q).clock d = s.clock d := by
  obtain ⟨j, o, h1⟩ := (s.giveUpReservation c).append_frame (s.entryOf c x q)
  obtain ⟨a, p, h2⟩ := (s.journalCommit c x q).bookPurchase_frame x.buyer x.winner.hold (s.purchaseOf x q).net
    (s.purchaseOf x q).seq
  obtain ⟨l, y, w, o', h3⟩ := ((s.journalCommit c x q).bookPurchase x.buyer x.winner.hold (s.purchaseOf x q).net
    (s.purchaseOf x q).seq).lotCommit_frame x (s.purchaseOf x q)
  unfold State.commitRecords
  dsimp only
  rw [h3, h2]
  refine Eq.trans ?_ (State.giveUpReservation_others hd)
  unfold State.journalCommit
  dsimp only
  rw [h1]
  rfl

/-- What the records of a commit leave, and what they leave as it was. -/
theorem State.commitRecords_leaves (c : Nat) (x : Sale) (q : Nat) :
    let u := s.commitRecords c x q
    u.lots = (s.setLot x.lot (some (commitPurchase x.record (s.purchaseOf x q)))).lots ∧
      u.journal = (s.journalCommit c x q).journal ∧
      u.accounts =
        ((s.journalCommit c x q).bookPurchase x.buyer x.winner.hold (s.purchaseOf x q).net s.nextSeq).accounts ∧
      ∃ z p o, u = { s with
        lots := u.lots, journal := u.journal, accounts := u.accounts, clocks := u.clocks
        yard := { s.yard with trains := z }, pres := p, ports := o } := by
  intro u
  obtain ⟨k, o, h1⟩ := State.journalCommit_eq (s := s) c x q
  obtain ⟨a, p, h2⟩ := (s.journalCommit c x q).bookPurchase_frame x.buyer x.winner.hold (s.purchaseOf x q).net
    (s.purchaseOf x q).seq
  obtain ⟨l, y, w, o', h3⟩ := ((s.journalCommit c x q).bookPurchase x.buyer x.winner.hold (s.purchaseOf x q).net
    (s.purchaseOf x q).seq).lotCommit_frame x (s.purchaseOf x q)
  have hlots := State.lotCommit_lots (s := (s.journalCommit c x q).bookPurchase x.buyer x.winner.hold
    (s.purchaseOf x q).net (s.purchaseOf x q).seq) x (s.purchaseOf x q)
  have hu : u = ((s.journalCommit c x q).bookPurchase x.buyer x.winner.hold (s.purchaseOf x q).net
    (s.purchaseOf x q).seq).lotCommit x (s.purchaseOf x q) := rfl
  rw [← hu] at h3 hlots
  change _ ∧ _ ∧ u.accounts = ((s.journalCommit c x q).bookPurchase x.buyer x.winner.hold (s.purchaseOf x q).net
    (s.purchaseOf x q).seq).accounts ∧ _
  generalize (s.journalCommit c x q).bookPurchase x.buyer x.winner.hold (s.purchaseOf x q).net
    (s.purchaseOf x q).seq = v at h2 h3 hlots ⊢
  have hv : v = { s with
      journal := (s.journalCommit c x q).journal, clocks := k, accounts := v.accounts, ports := p } := by
    rw [h2, h1]
  refine ⟨hlots.trans ?_, ?_, ?_, y, w, o', ?_⟩
  · rw [hv]
    rfl
  · rw [h3, hv]
  · rw [h3]
  · rw [h3, hv]

/-! ## What the commit tells (R110) -/

/-- What a reply makes of the desk line is by the desk line alone (R172). -/
theorem State.offerReply_line {u : State} (h : u.line = s.line) (d : Nat) (code : DeskCode) (x : Option Nat) (tag : Nat)
    (e : ReplyDetail) : (u.offerReply d code x tag e).line = (s.offerReply d code x tag e).line := by
  have hdisplace : ((u.displaceFor (.reply d code x tag e)).getD u).line =
      ((s.displaceFor (.reply d code x tag e)).getD s).line := by
    unfold State.displaceFor State.headOnLine
    rw [h, if_pos (show (OutFrame.reply d code x tag e).displaces = true from rfl),
      if_pos (show (OutFrame.reply d code x tag e).displaces = true from rfl)]
    split
    · exact h
    · next q _ =>
      change (State.displaced _ _ _).line = (State.displaced _ _ _).line
      rw [State.displaced_line, State.displaced_line]
      exact congrArg (fun l : Line => { l with outbound := joinQueue (.reply d code x tag e) q }) h
  unfold State.offerReply State.offer
  dsimp only
  rw [h]
  split
  · split
    · exact congrArg (fun l : Line => { l with outbound := joinQueue (.reply d code x tag e) s.line.outbound }) h
    · exact hdisplace
  · exact hdisplace

theorem State.commitTold_leaves (c : Nat) (x : Sale) (q : Nat) :
    let u := s.commitTold c x q
    u.clock c = { s.clock c with winner := none, lastSold := some x.lot } ∧
      (∀ d, d ≠ c → u.clock d = s.clock d) ∧
      ((u.flag .auc 2).pending = true ∧ (u.flag .auc 2).detail = .number c) ∧
      u.line = (s.offerReply x.winner.desk .quantitySet (some c) (s.clock c).tag
        (.sold q x.winner.position x.winner.price)).line ∧
      ∃ k l p o, u = { s with clocks := k, line := { s.line with outbound := l }, pres := p, ports := o } := by
  intro u
  have hclock : u.clock c = _ := State.commitTold_clock s c x q
  have hline := State.offerReply_line (s := s)
    (u := s.setClock c { s.clock c with winner := none, lastSold := some x.lot }) rfl x.winner.desk .quantitySet (some c)
    (s.clock c).tag (.sold q x.winner.position x.winner.price)
  have hu : u = State.raise _ .auc .clockSold (.number c) := rfl
  obtain ⟨l, p, h1⟩ := (s.setClock c { s.clock c with winner := none, lastSold := some x.lot }).offerReply_frame
    x.winner.desk .quantitySet (some c) (s.clock c).tag (.sold q x.winner.position x.winner.price)
  generalize State.offerReply _ x.winner.desk .quantitySet (some c) _ _ = v at hu hline h1
  rw [State.raise_eq _ _ _ _ (by decide)] at hu
  refine ⟨hclock, fun d hd => ?_, ?_, ?_, (s.setClock c { s.clock c with winner := none, lastSold := some x.lot }).clocks,
    l, p, u.ports, ?_⟩
  · rw [hu, h1]
    exact (State.setClock_clock s c d _).trans (if_neg hd)
  · rw [hu, State.setFlag_flag, if_pos ⟨rfl, rfl⟩]
    exact ⟨rfl, rfl⟩
  · rw [hu]
    exact hline
  · rw [hu, h1]
    rfl

/-! ## The sale committed (R110) -/

theorem commitPurchase_state (r : LotRec) (p : Purchase) :
    (commitPurchase r p).state =
      if r.remaining - p.stems = 0 then .soldOut else if 16 ≤ r.purchases.length + 1 then .partSold else .onClock := by
  unfold commitPurchase soldState Config.splitLimit
  dsimp only
  rw [List.length_append]
  rfl

/-- The records and the told part of a commit, made on a part `y` that the placing of the SALE frame left as `s`, but
for the line, the presentation unit, and the clock's winner and timer. -/
theorem saleCommitted {y v : State} {l b q : Nat} {r : LotRec} {w w' : Winner} {g : Given}
    (hy : ∃ p k, y = { s with pres := p, clocks := k, line := v.line })
    (hclock : y.clock c = { s.clock c with winner := some w', timer := none })
    (hothers : ∀ d, d ≠ c → y.clock d = s.clock d) (hw : w' = { w with given := some g }) :
    let x : Sale := { lot := l, record := r, winner := w', buyer := b, given := g }
    SaleCommitted s v ((y.commitRecords c x q).commitTold c x q) c l r w b q := by
  intro x
  obtain ⟨hlots, hjournal, haccounts, z, p', o, hrecords⟩ := State.commitRecords_leaves (s := y) c x q
  have hrc := State.commitRecords_clock y c x q
  have hro := fun d (hd : d ≠ c) => State.commitRecords_others (s := y) (c := c) x q hd
  have hvalues := State.journalCommit_values (s := y) c x q
  have hplace := State.journalCommit_place (s := y) c x q
  obtain ⟨a, ha, h1, h2, h3, h4, h5, h6⟩ := State.bookPurchase_accounts (s := y.journalCommit c x q) x.buyer
    x.winner.hold (y.purchaseOf x q).net y.nextSeq
  obtain ⟨k'', o'', hj⟩ := State.journalCommit_eq (s := y) c x q
  have hacct : (y.journalCommit c x q).acct x.buyer = s.acct b := by
    obtain ⟨p, k, rfl⟩ := hy
    rw [hj]
    rfl
  have hsetAcct : ((y.journalCommit c x q).setAcct x.buyer a).accounts = (s.setAcct b a).accounts := by
    obtain ⟨p, k, rfl⟩ := hy
    rw [hj]
    rfl
  rw [hacct] at h1 h2 h3 h4 h5 h6
  generalize y.journalCommit c x q = j at hjournal haccounts hvalues hplace ha hsetAcct hj hacct
  generalize y.commitRecords c x q = m at hlots hjournal haccounts hrecords hrc hro
  obtain ⟨htc, hto, htold, htline, k3, l3, p3, o3, htframe⟩ := State.commitTold_leaves (s := m) c x q
  generalize m.commitTold c x q = u at htc hto htold htline htframe
  obtain ⟨p, k, rfl⟩ := hy
  subst hw
  have huj : u.journal = j.journal := by rw [htframe]; exact hjournal
  refine
    { lot := ⟨commitPurchase r (State.purchaseOf _ x q), ?_, rfl, rfl, rfl, commitPurchase_state .., rfl, rfl, rfl, rfl,
        rfl⟩
      entry := ?_, places := fun k hk => ?_, values := ?_
      account := ⟨a, ?_, h1, h2, h3, h4, h5, h6⟩
      clock := ?_, others := fun d hd => (hto d hd).trans ((hro d hd).trans (hothers d hd)), sold := htold
      frames := ?_, rest := ?_ }
  · rw [htframe]
    exact hlots
  · have hp := (congrArg (fun jj : Journal => Tab.get none jj.places ((s.values.oldestPlace + s.values.used) % 8192))
      huj).trans (hplace _)
    refine hp.trans ((if_pos rfl).trans ?_)
    rw [State.entryOf, hclock]
    rfl
  · exact (congrArg (fun jj : Journal => Tab.get none jj.places k) huj).trans ((hplace k).trans (if_neg hk))
  · refine (congrArg (fun jj : Journal => jj.copy1.values) huj).trans (hvalues.trans ?_)
    rw [hclock]
    rfl
  · rw [htframe]
    exact haccounts.trans (ha.trans hsetAcct)
  · rw [htc, hrc, hclock]
  · rw [htline, hrc, hclock]
    exact State.offerReply_line (s := v) (by rw [hrecords]) ..
  · rw [htframe, hrecords]
    exact ⟨rfl, rfl, rfl, rfl, rfl⟩

end Sys2Proof.Machine
end

section
/-! QUANTITY, the hold timer's expiry, and what follows a commit (R106, R107, R109, R111, R79). -/

namespace Sys2Proof.Machine

set_option Elab.async false

variable {s : State} {t c : Nat}

/-- The sale that clock `c` commits to the winner `w` with the quantity `g`. -/
def saleWith (l : Nat) (r : LotRec) (w : Winner) (b : Nat) (g : Given) : Sale :=
  { lot := l, record := r, winner := { w with given := some g }, buyer := b, given := g }

/-- The final stems of a sale, fitted to the buyer's room (R108, R125). -/
def State.stemsFor (s : State) (r : LotRec) (w : Winner) (b : Nat) (g : Given) : Nat :=
  finalStems g r (fitsRoom (s.fee (s.acct b).feeClass) w.price (roomOf (s.acct b) w.hold))

/-- The clock with its quantity given and its hold timer stopped (R106). -/
def Clock.giving (k : Clock) (w : Winner) (g : Given) : Clock :=
  { k with winner := some { w with given := some g }, timer := none }

theorem Winner.with_given {w : Winner} {g : Given} (h : w.given = some g) : { w with given := some g } = w := by
  rw [← h]

/-- A quantity that has been given stays as it is (R109). -/
theorem Clock.giving_of_given {k : Clock} {w : Winner} {g : Given} (hw : k.winner = some w) (hg : w.given = some g)
    (ht : k.timer = none) : k.giving w g = k := by
  unfold Clock.giving
  rw [Winner.with_given hg, ← hw, ← ht]

/-- The SALE frame of a sale (R109). -/
def State.saleSent (s : State) (c l : Nat) (r : LotRec) (w : Winner) (b : Nat) (g : Given) : OutFrame :=
  .sale c (s.clock c).tag false w.desk w.position w.price (s.stemsFor r w b g) l r.catalogue
    (r.remaining - s.stemsFor r w b g)

theorem State.saleOf_eq {l b : Nat} {r : LotRec} {w : Winner} {g : Given} (hl : (s.clock c).lot = some l)
    (hw : (s.clock c).winner = some { w with given := some g }) (hr : s.lot l = some r) (hb : w.buyer = some b) :
    s.saleOf c = some (saleWith l r w b g) := by
  obtain ⟨d, buyer, position, price, hold, given⟩ := w
  obtain rfl : buyer = some b := hb
  unfold State.saleOf
  dsimp only
  rw [hl, hw]
  dsimp only
  rw [hr]
  rfl

/-- A commit whose SALE frame is placed (R109, R110). -/
theorem State.attemptCommit_placed {l b : Nat} {r : LotRec} {w : Winner} {g : Given} {v : State}
    (hl : (s.clock c).lot = some l) (hw : (s.clock c).winner = some { w with given := some g })
    (hr : s.lot l = some r) (hb : w.buyer = some b) (hv : s.Placed (s.saleSent c l r w b g) v) :
    s.attemptCommit c = v.takeCommit c (saleWith l r w b g) (s.stemsFor r w b g) := by
  unfold State.attemptCommit
  rw [State.saleOf_eq hl hw hr hb]
  have hoffer : s.offer (s.saleFrame c (saleWith l r w b g) (s.stemsOf (saleWith l r w b g))) = some v :=
    s.offer_of_placed hv rfl rfl
  dsimp only
  rw [hoffer]
  rfl

theorem State.attemptCommit_noPlace {l b : Nat} {r : LotRec} {w : Winner} {g : Given}
    (hl : (s.clock c).lot = some l) (hw : (s.clock c).winner = some { w with given := some g })
    (hr : s.lot l = some r) (hb : w.buyer = some b) (hno : s.NoPlace) :
    s.attemptCommit c = s.joinWait (.clock c) .sale := by
  unfold State.attemptCommit
  rw [State.saleOf_eq hl hw hr hb]
  dsimp only
  rw [s.offer_of_noPlace _ hno]

theorem State.giveQuantity_eq {w : Winner} (hw : (s.clock c).winner = some w) (g : Given) :
    s.giveQuantity c g = (s.setClock c ((s.clock c).giving w g)).attemptCommit c := by
  unfold State.giveQuantity
  dsimp only
  rw [hw]
  rfl

/-- A quantity that is given commits the sale when its SALE frame is placed (R106, R109). -/
theorem State.giveQuantity_placed {l b : Nat} {r : LotRec} {w : Winner} {g : Given} {v : State}
    (hl : (s.clock c).lot = some l) (hw : (s.clock c).winner = some w) (hr : s.lot l = some r) (hb : w.buyer = some b)
    (hv : s.Placed (s.saleSent c l r w b g) v) :
    s.giveQuantity c g =
      (v.setClock c ((s.clock c).giving w g)).takeCommit c (saleWith l r w b g) (s.stemsFor r w b g) := by
  rw [State.giveQuantity_eq hw]
  have hclock := s.setClock_clock_same c ((s.clock c).giving w g)
  refine State.attemptCommit_placed (s := s.setClock c ((s.clock c).giving w g)) (by rw [hclock]; exact hl)
    (by rw [hclock]; rfl) hr hb ?_
  have hframe : (s.setClock c ((s.clock c).giving w g)).saleSent c l r w b g = s.saleSent c l r w b g := by
    unfold State.saleSent
    rw [hclock]
    rfl
  rw [hframe]
  exact State.placed_setClock rfl hv

theorem State.giveQuantity_noPlace {l b : Nat} {r : LotRec} {w : Winner} {g : Given}
    (hl : (s.clock c).lot = some l) (hw : (s.clock c).winner = some w) (hr : s.lot l = some r) (hb : w.buyer = some b)
    (hno : s.NoPlace) :
    s.giveQuantity c g = (s.setClock c ((s.clock c).giving w g)).joinWait (.clock c) .sale := by
  rw [State.giveQuantity_eq hw]
  have hclock := s.setClock_clock_same c ((s.clock c).giving w g)
  exact State.attemptCommit_noPlace (s := s.setClock c ((s.clock c).giving w g)) (by rw [hclock]; exact hl)
    (by rw [hclock]; rfl) hr hb (State.noPlace_of_line (s := s) rfl rfl hno)

/-- What follows a commit: the clock waits to restart, or lets go (R111). -/
def State.afterCommit (s : State) (c l position : Nat) : State :=
  if s.lotIs l .onClock then s.afterOpen c position else s.afterClosed c

/-- A commit that is taken on the part as the placing of its frame left it. -/
theorem saleCommitted_takeCommit {y v : State} {l b q : Nat} {r : LotRec} {w : Winner} {g : Given}
    (hy : ∃ p k, y = { s with pres := p, clocks := k, line := v.line })
    (hclock : y.clock c = (s.clock c).giving w g) (hothers : ∀ d, d ≠ c → y.clock d = s.clock d) :
    ∃ u : State, y.takeCommit c (saleWith l r w b g) q = u.afterCommit c l w.position ∧
      u.line.inbound = v.line.inbound ∧ SaleCommitted s v u c l r w b q := by
  have h := saleCommitted (l := l) (b := b) (q := q) (r := r) hy hclock hothers rfl
  refine ⟨_, rfl, ?_, h⟩
  refine (congrArg Line.inbound h.frames).trans ?_
  obtain ⟨x, p, hf⟩ := v.offerReply_frame w.desk .quantitySet (some c) (s.clock c).tag (.sold q w.position w.price)
  rw [hf]

/-- A quantity that is given on a part that differs from `s` in its inbound queue commits the sale. -/
theorem saleCommitted_giveQuantity {u v : State} {l b : Nat} {r : LotRec} {w : Winner} {g : Given}
    (hu : ∃ rest, u = { s with line := { s.line with inbound := rest } }) (hl : (s.clock c).lot = some l)
    (hw : (s.clock c).winner = some w) (hr : s.lot l = some r) (hb : w.buyer = some b)
    (hv : u.Placed (s.saleSent c l r w b g) v) :
    ∃ z : State, u.giveQuantity c g = z.afterCommit c l w.position ∧ z.line.inbound = u.line.inbound ∧
      SaleCommitted s v z c l r w b (s.stemsFor r w b g) := by
  have hsame : u.clock c = s.clock c ∧ u.lot l = s.lot l ∧ u.saleSent c l r w b g = s.saleSent c l r w b g ∧
      u.stemsFor r w b g = s.stemsFor r w b g := by
    obtain ⟨rest, rfl⟩ := hu
    exact ⟨rfl, rfl, rfl, rfl⟩
  obtain ⟨hclock, hlot, hsale, hstems⟩ := hsame
  rw [← hclock] at hl hw
  rw [← hlot] at hr
  rw [← hsale] at hv
  rw [State.giveQuantity_placed hl hw hr hb hv, hstems, hclock]
  have hvclock := State.placed_clock hv
  obtain ⟨x, p, hframe⟩ := State.placed_frame hv
  have hy : ∃ p k, v.setClock c ((s.clock c).giving w g) = { s with pres := p, clocks := k, line := v.line } := by
    refine ⟨v.pres, (v.setClock c ((s.clock c).giving w g)).clocks, ?_⟩
    obtain ⟨rest, hu⟩ := hu
    rw [hframe, hu]
    rfl
  have hud : ∀ d, u.clock d = s.clock d := by
    obtain ⟨rest, rfl⟩ := hu
    exact fun d => rfl
  obtain ⟨z, h1, h2, h3⟩ := saleCommitted_takeCommit (q := s.stemsFor r w b g) (l := l) (r := r) (b := b) hy
    (v.setClock_clock_same c _)
    (fun d hd => (v.setClock_clock c d _).trans ((if_neg hd).trans ((hvclock d).trans (hud d))))
  exact ⟨z, h1, h2.trans (by rw [hframe]), h3⟩

/-! ## A QUANTITY frame (R106) -/

theorem exec_quantity {d tag : Nat} {g : Given} (h : s.turn = some (.quantity c d tag g)) :
    exec .quantity s = .next (s.handOn.takeQuantityFrame c d tag g) := by
  change execQuantity s = _
  unfold execQuantity
  rw [h]

theorem State.takeQuantityFrame_winner {d tag : Nat} {g : Given} {w : Winner} (hc : c < 6)
    (hq : (s.clock c).state = .held) (hw : (s.clock c).winner = some w) :
    s.takeQuantityFrame c d tag g =
      if w.desk ≠ d then s.offerReply d .taken (some c) tag .nothing
      else if (s.clock c).tag ≠ tag then s.offerReply d .wrongRun (some c) tag (.runTag (s.clock c).tag)
      else if w.given.isSome then s.offerReply d .taken (some c) tag .nothing
      else s.giveQuantity c g := by
  refine (if_pos hc).trans ?_
  unfold State.judgeQuantity
  dsimp only
  rw [hw]
  exact if_neg (not_not.2 hq)

theorem State.takeQuantityFrame_notWinner {d tag : Nat} {g : Given} (hc : c < 6)
    (h : (s.clock c).state ≠ .held ∨ (s.clock c).winner = none) :
    s.takeQuantityFrame c d tag g = s.offerReply d .notWinner (some c) tag .nothing := by
  refine (if_pos hc).trans ?_
  unfold State.judgeQuantity
  dsimp only
  split
  · rfl
  · next w hw => exact if_pos (h.resolve_right (by simp [hw]))

/-- The winner's first quantity (R106). -/
theorem State.takeQuantityFrame_given {g : Given} {w : Winner} (hc : c < 6) (hq : (s.clock c).state = .held)
    (hw : (s.clock c).winner = some w) (hg : w.given = none) :
    s.takeQuantityFrame c w.desk (s.clock c).tag g = s.giveQuantity c g :=
  (State.takeQuantityFrame_winner hc hq hw).trans ((if_neg (not_not.2 rfl)).trans ((if_neg (not_not.2 rfl)).trans
    (if_neg (by simp [hg]))))

/-- The hold timer's expiry gives Emin (R107). -/
theorem exec_holdTimerExpiry {l : Nat} {r : LotRec} (hon : s.isOn = true) (hq : (s.clock c).state = .held)
    (ht : (s.clock c).timer = some 0) (hl : (s.clock c).lot = some l) (hr : s.lot l = some r) :
    exec (.holdTimerExpiry c) s =
      .next (s.giveQuantity c (.stems (min (r.minTake * r.unit) r.remaining))) := by
  change Host.Outcome.next (if s.timeUp c .held then s.holdUp c else s) = _
  rw [if_pos ((State.timeUp_iff hon c _).2 ⟨hq, ht⟩)]
  unfold State.holdUp
  rw [hl]
  dsimp only [Option.bind_some]
  rw [hr]
  rfl

end Sys2Proof.Machine

namespace Sys2Proof.Proofs

open Machine

/-- Settles O51: the commit of a sale by each of its causes, the refusals of a QUANTITY, and what follows a commit. -/
theorem quantityAndHoldExpiryCommitTheSale : Obligations.QuantityAndHoldExpiryCommitTheSale := by
  refine ⟨?_, ?_, ?_⟩
  · intro s c l b r w hc k hw hb hl hr a stems least next placed
    refine ⟨fun v hon hq hg => ⟨fun f rest g hin hf hv => ?_, fun ht hv => ?_⟩, fun v g hg hm hh hbegin ht hv => ?_,
      fun hno hon hq hg => ?_⟩
    · obtain ⟨z, h1, h2, h3⟩ := saleCommitted_giveQuantity (g := g) ⟨rest, rfl⟩ hl hw hr hb hv
      refine ⟨z, ?_, h2, h3⟩
      rw [exec_quantity ((State.turn_of_head hon hin).trans (congrArg some hf)), State.handOn_eq hin]
      refine congrArg _ (Eq.trans ?_ h1)
      exact State.takeQuantityFrame_given (s := { s with line := { s.line with inbound := rest } }) hc hq hw hg
    · obtain ⟨z, h1, h2, h3⟩ := saleCommitted_giveQuantity (g := least) ⟨s.line.inbound, rfl⟩ hl hw hr hb hv
      exact ⟨z, (exec_holdTimerExpiry hon hq ht hl hr).trans (congrArg _ h1), h2, h3⟩
    · have hwith : k.winner = some { w with given := some g } := by rw [Winner.with_given hg, hw]
      have hvclock := State.placed_clock hv
      obtain ⟨x, p, hframe⟩ := State.placed_frame hv
      obtain ⟨z, h1, h2, h3⟩ := saleCommitted_takeCommit (s := s) (c := c) (y := v) (v := v) (q := stems g) (l := l)
        (r := r) (b := b) (w := w) (g := g) ⟨v.pres, v.clocks, by rw [hframe]⟩
        ((hvclock c).trans (Clock.giving_of_given hw hg ht).symm) (fun d _ => hvclock d)
      refine ⟨z, ?_, h2.trans (by rw [hframe]), h3⟩
      refine (State.produce_sale hh hbegin hw).trans ((if_neg (by simp [show (s.clock c).rehearsalRun = false from hm])).trans
        (Eq.trans ?_ h1))
      exact State.attemptCommit_placed hl hwith hr hb hv
    · intro waiting
      refine ⟨fun f rest g hin hf => ?_, fun ht => ?_⟩
      · rw [exec_quantity ((State.turn_of_head hon hin).trans (congrArg some hf)), State.handOn_eq hin]
        refine congrArg _ ((State.takeQuantityFrame_given (s := { s with line := { s.line with inbound := rest } }) hc hq hw
          hg).trans ?_)
        exact State.giveQuantity_noPlace (s := { s with line := { s.line with inbound := rest } }) hl hw hr hb
          (State.noPlace_of_line (s := s) rfl rfl hno)
      · exact (exec_holdTimerExpiry hon hq ht hl hr).trans
          (congrArg _ (State.giveQuantity_noPlace hl hw hr hb hno))
  · intro s f rest c d tag g hon hin hf k refused
    have hexec := exec_quantity ((State.turn_of_head hon hin).trans (congrArg some hf))
    rw [State.handOn_eq hin] at hexec
    refine ⟨fun hc => hexec.trans (congrArg _ (if_neg (Nat.not_lt.2 hc))),
      fun hc h => hexec.trans (congrArg _ (State.takeQuantityFrame_notWinner hc h)), fun w hc hq hw => ?_⟩
    have hjudge := hexec.trans (congrArg _ (State.takeQuantityFrame_winner hc hq hw))
    refine ⟨fun hd => hjudge.trans (congrArg _ (if_pos hd)),
      fun hd ht => hjudge.trans (congrArg _ ((if_neg (not_not.2 hd)).trans (if_pos (Ne.symm ht)))),
      fun hd ht hg => hjudge.trans (congrArg _ ((if_neg (not_not.2 hd)).trans ((if_neg (not_not.2 ht.symm)).trans
        (if_pos (Option.isSome_iff_ne_none.2 hg)))))⟩
  · intro u c position k gone
    refine ⟨rfl, fun hp => ?_, fun hp => ?_⟩
    · unfold State.afterClosed
      exact if_neg (by simp [show (u.clock c).pausePending = false from hp])
    · unfold State.afterClosed
      refine (if_pos hp).trans (congrArg (State.settleQuiet · (some c)) (congrArg (State.raise · _ _ _) ?_))
      rw [State.letGo_clock]
      refine congrArg (fun x : State => State.setPres x c _) (State.setClock_setClock ..)

end Sys2Proof.Proofs
end

section
/-! Sending, the end of a sending, and the grants of freed places (R171 to R175, R179). -/

namespace Sys2Proof.Machine

set_option Elab.async false

variable {s : State} {t c : Nat}

/-! ## Joining the outbound queue (R171) -/

/-- The place that a frame takes in an outbound queue: behind the begun head and the replies, or at the tail (R171). -/
def joinedQueue (f : OutFrame) (q : List OutPlace) : List OutPlace :=
  let p : OutPlace := { frame := f, sent := 0 }
  let begun := q.takeWhile fun x => x.sent ≠ 0
  let rest := q.dropWhile fun x => x.sent ≠ 0
  if f.isReply then
    begun ++ (rest.takeWhile fun x => x.frame.isReply) ++ p :: rest.dropWhile fun x => x.frame.isReply
  else q ++ [p]

theorem insertReply_eq (p : OutPlace) (q : List OutPlace) :
    insertReply p q = (q.takeWhile fun x => x.frame.isReply) ++ p :: q.dropWhile fun x => x.frame.isReply := by
  induction q with
  | nil => rfl
  | cons a q ih =>
    unfold insertReply
    cases ha : a.frame.isReply with
    | true =>
      rw [if_pos rfl, List.takeWhile_cons_of_pos (p := fun x : OutPlace => x.frame.isReply) ha,
        List.dropWhile_cons_of_pos (p := fun x : OutPlace => x.frame.isReply) ha, ih]
      rfl
    | false =>
      rw [if_neg (by decide), List.takeWhile_cons_of_neg (by simp [ha]), List.dropWhile_cons_of_neg (by simp [ha])]
      rfl

theorem takeWhile_sent {q : List OutPlace} (h : ∀ x ∈ q, x.sent = 0) : q.takeWhile (fun x => x.sent ≠ 0) = [] := by
  cases q with
  | nil => rfl
  | cons a q => exact List.takeWhile_cons_of_neg (by simp [h a])

theorem dropWhile_sent {q : List OutPlace} (h : ∀ x ∈ q, x.sent = 0) : q.dropWhile (fun x => x.sent ≠ 0) = q := by
  cases q with
  | nil => rfl
  | cons a q => exact List.dropWhile_cons_of_neg (by simp [h a])

/-- With no place behind the head sent, a frame joins as R171 says. -/
theorem joinQueue_eq (f : OutFrame) {q : List OutPlace} (hfresh : ∀ x ∈ q.tail, x.sent = 0) :
    joinQueue f q = joinedQueue f q := by
  unfold joinQueue joinedQueue
  dsimp only
  cases f.isReply with
  | false => rfl
  | true =>
    rw [if_pos rfl, if_pos rfl]
    cases q with
    | nil => rfl
    | cons a q =>
      dsimp only
      by_cases ha : a.sent = 0
      · have hall : ∀ x ∈ a :: q, x.sent = 0 := by simpa [ha] using hfresh
        rw [if_pos ha, insertReply_eq, takeWhile_sent hall, dropWhile_sent hall]
        rfl
      · have hfresh : ∀ x ∈ q, x.sent = 0 := hfresh
        rw [if_neg ha, insertReply_eq, List.takeWhile_cons_of_pos (by simpa using ha),
          List.dropWhile_cons_of_pos (by simpa using ha), takeWhile_sent hfresh, dropWhile_sent hfresh]
        rfl

/-! ## Displacing an ANNOUNCE (R172) -/

/-- The frame is an ANNOUNCE (R172). -/
def OutFrame.isAnnounce (f : OutFrame) : Prop := ∃ c i l a b d e g h j, f = .announce c i l a b d e g h j

theorem announces_eq_none (f : OutFrame) : f.announces = none ↔ ¬f.isAnnounce := by
  unfold OutFrame.isAnnounce
  cases f <;> simp [OutFrame.announces]

theorem dropAnnounce_eq_none (q : List OutPlace) : dropAnnounce q = none ↔ ∀ x ∈ q, x.frame.announces = none := by
  induction q with
  | nil => simp [dropAnnounce]
  | cons a q ih =>
    rw [dropAnnounce_cons, List.forall_mem_cons]
    cases ha : a.frame.announces with
    | none => simp [ih]
    | some x => simp

theorem displaceFrom_eq_none (b : Bool) (q : List OutPlace) :
    displaceFrom b q = none ↔ ∀ x ∈ if b then q.tail else q, x.frame.announces = none := by
  cases b with
  | false => exact dropAnnounce_eq_none q
  | true =>
    cases q with
    | nil => simp [displaceFrom, dropAnnounce]
    | cons a q =>
      refine (Option.map_eq_none_iff).trans ?_
      exact dropAnnounce_eq_none q

/-- The oldest ANNOUNCE that is not on the line is displaced (R172). -/
theorem displaceFrom_append {b : Bool} {before behind : List OutPlace} {x : OutPlace} {d l : Nat}
    (hx : x.frame.announces = some (d, l)) (hne : b = true → before ≠ [])
    (hb : ∀ y ∈ if b then before.tail else before, y.frame.announces = none) :
    displaceFrom b (before ++ x :: behind) = some (d, l, before ++ behind) := by
  cases b with
  | false => exact dropAnnounce_append hx hb
  | true =>
    cases before with
    | nil => exact absurd rfl (hne rfl)
    | cons a q =>
      have hb : ∀ y ∈ q, y.frame.announces = none := hb
      unfold displaceFrom
      rw [List.cons_append]
      dsimp only
      rw [dropAnnounce_append hx hb]
      rfl

theorem OutFrame.displaces_iff (f : OutFrame) :
    f.displaces = true ↔ f.isReply = true ∨ (∃ c t r n p, f = .halt c t r n p) ∨
      ∃ c t m d n p q l k r, f = .sale c t m d n p q l k r := by
  cases f <;> simp [OutFrame.displaces, OutFrame.isReply]

theorem State.displaceFor_of_none {f : OutFrame} (h : displaceFrom s.headOnLine s.line.outbound = none) :
    s.displaceFor f = none := by
  unfold State.displaceFor
  rw [h]
  exact ite_self _

/-! ## The wait list and its grants (R173) -/

theorem nextWaiter_of_first {e : WaitEntry} {before behind : List WaitEntry}
    (h : (e.kind = .halt ∨ e.kind = .sale) ∧ (∀ x ∈ before, x.kind = .run ∨ x.kind = .announce) ∨
      before = [] ∧ ∀ x ∈ before ++ e :: behind, x.kind = .run ∨ x.kind = .announce) :
    nextWaiter (before ++ e :: behind) = some e := by
  have hlate : ∀ x : WaitEntry, x.kind = .run ∨ x.kind = .announce → (x.kind == .halt || x.kind == .sale) = false := by
    rintro x (h | h) <;> rw [h] <;> rfl
  unfold nextWaiter
  rcases h with ⟨he, hb⟩ | ⟨rfl, hall⟩
  · rw [List.find?_append, List.find?_eq_none.2 fun x hx => by simp [hlate x (hb x hx)],
      List.find?_cons_of_pos (by rcases he with he | he <;> rw [he] <;> rfl)]
    rfl
  · rw [List.find?_eq_none.2 fun x hx => by simp [hlate x (hall x hx)]]
    rfl

theorem State.hasRoom_iff : s.hasRoom = true ↔ s.line.outbound.length < 16 := decide_eq_true_iff

theorem State.grantUpTo_idle (n : Nat) (h : 16 ≤ s.line.outbound.length ∨ s.line.waits = []) :
    State.grantUpTo n s = s := by
  cases n with
  | zero => rfl
  | succ n =>
    unfold State.grantUpTo
    rcases h with h | h
    · exact if_neg (mt State.hasRoom_iff.1 (Nat.not_lt.2 h))
    · rw [h]
      exact ite_self _

theorem State.grantUpTo_step {n : Nat} {e : WaitEntry} (hroom : s.line.outbound.length < 16)
    (h : nextWaiter s.line.waits = some e) :
    State.grantUpTo (n + 1) s =
      State.grantUpTo n ((s.setWaits (s.line.waits.filter fun x => x.who ≠ e.who)).produce e.who) := by
  rw [State.grantUpTo, if_pos (State.hasRoom_iff.2 hroom), h]
  rfl

theorem State.placeFreed_eq :
    s.placeFreed =
      if (State.grantUpTo 14 s).line.outbound.length < 16 then (State.grantUpTo 14 s).settle
      else (State.grantUpTo 14 s).judgeClocks none := if_congr State.hasRoom_iff rfl rfl

/-- With a free place the presentation unit places one ANNOUNCE, or has none due (R50, R173). -/
theorem State.produce_presentation (hroom : s.line.outbound.length < 16) :
    s.produce .presentation = State.announceUpTo 1 s := by
  change s.announceStep.2 = State.announceUpTo 1 s
  unfold State.announceUpTo State.announceStep
  split
  · rfl
  · split
    · rfl
    · rw [s.offer_of_room _ hroom]
      rfl

theorem State.joinWait_new {who : Producer} {kind : WaitKind} (h : ∀ x ∈ s.line.waits, x.who ≠ who) :
    s.joinWait who kind = s.setWaits (s.line.waits ++ [{ who := who, kind := kind }]) :=
  if_neg (by simpa using h)

theorem State.joinWait_again {who : Producer} {kind : WaitKind} (h : ∃ x ∈ s.line.waits, x.who = who) :
    s.joinWait who kind = s.setWaits (s.line.waits.map fun x => if x.who = who then { x with kind := kind } else x) :=
  if_pos (by simpa using h)

/-! ## The end of a sending (R174, R175, R179) -/

/-- The part when the frame at the head has left the line and the queue (R174). -/
def State.headGone (s : State) (rest : List OutPlace) : State := (s.setSending none).setOutbound rest

theorem State.leaveHead_eq {u : State} {rest : List OutPlace} {p : OutPlace} (h : u.line.outbound = p :: rest) :
    u.leaveHead = (u.headGone rest).placeFreed := by
  unfold State.leaveHead
  rw [h]
  rfl

theorem State.raise_headGone (rest : List OutPlace) (p : Port) (n : Notice) (d : Detail) :
    (s.headGone rest).raise p n d = (s.raise p n d).headGone rest := by
  obtain ⟨x, hx, -⟩ := s.raise_ports p n d
  calc
    (s.headGone rest).raise p n d = { s.headGone rest with ports := (s.raise p n d).ports } :=
      State.raise_of_ports (s := s) (u := s.headGone rest) rfl p n d
    _ = (s.raise p n d).headGone rest := by
      rw [hx]
      rfl

/-- A reply that is dropped is counted at its desk, and leaves the queue (R175). -/
theorem State.countDrop_leaveHead {d : Nat} {rest : List OutPlace} {p : OutPlace} (h : s.line.outbound = p :: rest) :
    (s.countDrop d).leaveHead = ((s.headGone rest).countDrop d).placeFreed := by
  have hgone : (s.countDrop d).headGone rest = (s.headGone rest).countDrop d := by
    unfold State.countDrop
    dsimp only
    change (if _ then _ else _ : State).headGone rest = if _ then _ else _
    rw [apply_ite (fun u : State => u.headGone rest)]
    refine if_congr Iff.rfl ?_ rfl
    exact (State.raise_headGone (s := s.setDesk d
      { s.desk d with undelivered := min ((s.desk d).undelivered + 1) 255, reachable := false }) rest ..).symm
  have hline : (s.countDrop d).line = s.line := by
    unfold State.countDrop
    dsimp only
    split
    · obtain ⟨x, hx, -⟩ := (s.setDesk d
        { s.desk d with undelivered := min ((s.desk d).undelivered + 1) 255, reachable := false }).raise_ports .sup
        .deskUnreachable (.number d)
      rw [hx]
      rfl
    · rfl
  rw [State.leaveHead_eq (u := s.countDrop d) (rest := rest) (p := p) (by rw [hline, h]), hgone]

theorem exec_broadcastSent {x : Sending} (h : s.line.sending = some x) :
    exec .broadcastSent s = .next (if x.frame.isReply then s else s.sentWhole x) := by
  change execBroadcastSent s = _
  unfold execBroadcastSent
  rw [h]

theorem exec_disturbance {x : Sending} (h : s.line.sending = some x) : exec .disturbance s = .next (s.failed x) := by
  change execDisturbance s = _
  unfold execDisturbance
  rw [h]

theorem exec_replyDelivered {x : Sending} (h : s.line.sending = some x) {d tag : Nat} {code : DeskCode}
    {k : Option Nat} {y : ReplyDetail} (hf : x.frame = .reply d code k tag y) :
    exec .replyDelivered s = .next (s.delivered x d) := by
  change execReplyDelivered s = _
  unfold execReplyDelivered
  rw [h]
  dsimp only
  rw [hf]

theorem exec_replyDelivered_broadcast {x : Sending} (h : s.line.sending = some x) (hf : x.frame.isReply = false) :
    exec .replyDelivered s = .next s := by
  change execReplyDelivered s = _
  unfold execReplyDelivered
  rw [h]
  dsimp only
  generalize x.frame = f at hf ⊢
  cases f with
  | reply => cases hf
  | run | halt | sale | announce => rfl

theorem exec_replyNotDelivered {x : Sending} (h : s.line.sending = some x) :
    exec .replyNotDelivered s = .next (if x.frame.isReply then s.failed x else s) := by
  change execReplyNotDelivered s = _
  unfold execReplyNotDelivered
  rw [h]

theorem State.failed_orphan {x : Sending} (h : x.orphan = true) : s.failed x = s.setSending none := if_pos h

theorem State.failed_reply {x : Sending} {d tag : Nat} {code : DeskCode} {k : Option Nat} {y : ReplyDetail}
    (ho : x.orphan = false) (hf : x.frame = .reply d code k tag y) : s.failed x = s.replyFailed d s.sentCount := by
  unfold State.failed
  rw [hf]
  exact if_neg (by simp [ho])

theorem State.failed_broadcast {x : Sending} (ho : x.orphan = false) (hf : x.frame.isReply = false) :
    s.failed x = s.broadcastDisturbed s.sentCount := by
  refine (if_neg (by simp [ho])).trans ?_
  generalize x.frame = f at hf ⊢
  cases f with
  | reply => cases hf
  | run | halt | sale | announce => rfl

theorem State.sentCount_eq {p : OutPlace} {rest : List OutPlace} (h : s.line.outbound = p :: rest) :
    s.sentCount = p.sent := by
  unfold State.sentCount
  rw [h]

theorem State.countDrop_reachable {d : Nat} (h : (s.desk d).reachable = true) :
    s.countDrop d =
      if min ((s.desk d).undelivered + 1) 255 = 3 then
        (s.setDesk d
          { s.desk d with undelivered := min ((s.desk d).undelivered + 1) 255, reachable := false }).raise .sup
          .deskUnreachable (.number d)
      else s.setDesk d { s.desk d with undelivered := min ((s.desk d).undelivered + 1) 255 } := by
  unfold State.countDrop
  exact if_congr (and_iff_right h) rfl rfl

theorem State.countDrop_unreachable {d : Nat} (h : (s.desk d).reachable = false) :
    s.countDrop d = s.setDesk d { s.desk d with undelivered := min ((s.desk d).undelivered + 1) 255 } :=
  if_neg (by simp [h])

end Sys2Proof.Machine

namespace Sys2Proof.Proofs

open Machine

/-- Settles O57: the sending of the head, its end by the frame, the grants, and the places of the outbound queue. -/
theorem sentFramesLeaveTheQueue : Obligations.SentFramesLeaveTheQueue := by
  refine ⟨?_, ?_, ?_, ?_⟩
  · intro s p rest hout
    have hcount := State.sentCount_eq hout
    refine ⟨fun hon hs => ?_, fun x hx ho hf => ?_, fun hw hroom => ?_⟩
    · refine congrArg _ ((if_pos ⟨hon, hs⟩).trans ?_)
      unfold State.beginSending
      rw [hout]
    · intro idle gone
      have hleave : s.leaveHead = gone.placeFreed := State.leaveHead_eq hout
      refine ⟨fun hr => ?_, fun d code c t y hp => ?_⟩
      · have hr' : x.frame.isReply = false := by rw [hf, hr]
        refine ⟨?_, ?_, exec_replyDelivered_broadcast hx hr', ?_⟩
        · rw [exec_broadcastSent hx, hr', ← hleave]
          exact congrArg _ ((if_neg (by decide)).trans (if_neg (by simp [ho])))
        · rw [exec_disturbance hx, State.failed_broadcast ho hr', hcount, ← hleave]
          unfold State.broadcastDisturbed
          by_cases h4 : 4 ≤ p.sent
          · rw [if_pos h4, if_neg (Nat.not_lt.2 h4)]
          · rw [if_neg h4, if_pos (Nat.lt_of_not_le h4)]
            rfl
        · rw [exec_replyNotDelivered hx, hr']
          rfl
      · intro e
        have hf' := hf.trans hp
        have hfailed : s.failed x = s.replyFailed d p.sent := by rw [State.failed_reply ho hf', hcount]
        have hnot : exec .replyNotDelivered s = .next (s.replyFailed d p.sent) := by
          rw [exec_replyNotDelivered hx, hf', hfailed]
          rfl
        have hdist : exec .disturbance s = .next (s.replyFailed d p.sent) := by rw [exec_disturbance hx, hfailed]
        have hdrop := State.countDrop_leaveHead (d := d) hout
        refine ⟨?_, fun hreach h4 => ?_, fun hreach h4 => ?_, fun hreach => ?_, ?_⟩
        · rw [exec_replyDelivered hx hf']
          refine congrArg _ ((if_neg (by simp [ho])).trans ?_)
          exact State.leaveHead_eq (u := s.reached d) hout
        · have hres : s.replyFailed d p.sent = idle := if_neg (by
            rintro (h | h)
            · exact absurd (hreach.symm.trans h) (by decide)
            · omega)
          exact ⟨hnot.trans (congrArg _ hres), hdist.trans (congrArg _ hres)⟩
        · intro n dropped
          have hres : s.replyFailed d p.sent = dropped.placeFreed :=
            (if_pos (.inr h4)).trans (hdrop.trans (congrArg _ (State.countDrop_reachable (s := s.headGone rest) hreach)))
          exact ⟨hnot.trans (congrArg _ hres), hdist.trans (congrArg _ hres)⟩
        · intro dropped
          have hres : s.replyFailed d p.sent = dropped.placeFreed :=
            (if_pos (.inl hreach)).trans (hdrop.trans (congrArg _ (State.countDrop_unreachable (s := s.headGone rest) hreach)))
          exact ⟨hnot.trans (congrArg _ hres), hdist.trans (congrArg _ hres)⟩
        · rw [exec_broadcastSent hx, hf']
          exact congrArg _ (if_pos rfl)
    · have hidle := State.grantUpTo_idle (s := s.headGone rest) 14 (.inr hw)
      refine State.placeFreed_eq.trans ?_
      rw [show (s.setSending none).setOutbound rest = s.headGone rest from rfl, hidle]
      exact if_pos hroom
  · intro s n given
    refine ⟨State.placeFreed_eq, rfl, State.grantUpTo_idle n, fun e before behind hroom hw h => ?_,
      State.produce_presentation, fun who kind h => State.joinWait_new h, fun who kind h => State.joinWait_again h⟩
    refine State.grantUpTo_step hroom ?_
    rw [hw] at h ⊢
    exact nextWaiter_of_first h
  · intro s f q joined hahead movable isAnnounce
    have hfirst : RepliesFirst q := (State.repliesAhead_iff s).1 hahead
    have hnone : (∀ x ∈ movable, ¬isAnnounce x) ↔ displaceFrom s.headOnLine q = none := by
      rw [displaceFrom_eq_none]
      exact forall₂_congr fun x _ => (announces_eq_none x.frame).symm
    refine ⟨fun hroom => ?_, fun hfull => if_neg (Nat.not_lt.2 hfull), OutFrame.displaces_iff f, fun hf => ?_, hnone,
      fun h => State.displaceFor_of_none (hnone.1 h), fun before behind c i l a b d e g h j m hf hq hne hb => ?_,
      fun x => rfl, fun desk code clock tag detail hf => ?_⟩
    · rw [s.offer_of_room f hroom, joinQueue_eq f hfirst.fresh]
      rfl
    · exact if_neg (by simp [hf])
    · have hd : displaceFrom s.headOnLine q = some (c, l, before ++ behind) := by
        rw [hq]
        exact displaceFrom_append rfl hne fun y hy => (announces_eq_none y.frame).2 (hb y hy)
      unfold State.displaceFor
      rw [if_pos hf, show displaceFrom s.headOnLine s.line.outbound = _ from hd]
      dsimp only
      rw [joinQueue_eq f ((displaceFrom_keeps hd).2 hfirst).fresh]
      rfl
    · subst hf
      unfold State.offerReply
      dsimp only
      cases s.line.waits <;> rfl
  · intro s x hx ho
    refine ⟨fun hr => ⟨?_, ?_⟩, fun d code c t y hf => ⟨?_, ?_, ?_⟩⟩
    · rw [exec_broadcastSent hx, hr]
      exact congrArg _ ((if_neg (by decide)).trans (if_pos ho))
    · rw [exec_disturbance hx, State.failed_orphan ho]
    · rw [exec_replyDelivered hx hf]
      exact congrArg _ (if_pos ho)
    · rw [exec_replyNotDelivered hx, hf, State.failed_orphan ho]
      rfl
    · rw [exec_disturbance hx, State.failed_orphan ho]

end Sys2Proof.Proofs
end

section
/-! The supply levels and the reset line (R81, R158 to R160). -/

namespace Sys2Proof.Machine

set_option Elab.async false

variable {s : State} {t c : Nat}

/-! ## What the step to LOW leaves of the retained store (R81, R158) -/

/-- A lot record less its state and its clock. -/
def bareLot (r : LotRec) : LotRec := { r with state := .registered, clock := none }

/-- The retained store, the sensed levels, the supply and the waiting commands are as they were, the lots up to their
state and clock. -/
structure KeepsStored (s u : State) : Prop where
  lots : ∀ k, (u.lot k).map bareLot = (s.lot k).map bareLot
  rest : u.accounts = s.accounts ∧ u.journal = s.journal ∧ u.change = s.change ∧ u.sense = s.sense ∧
    u.power = s.power ∧ u.pending = s.pending

theorem KeepsStored.refl (s : State) : KeepsStored s s := ⟨fun _ => rfl, rfl, rfl, rfl, rfl, rfl, rfl⟩

theorem KeepsStored.trans {u v : State} (h : KeepsStored s u) (g : KeepsStored u v) : KeepsStored s v := by
  obtain ⟨hl, h1, h2, h3, h4, h5, h6⟩ := h
  obtain ⟨gl, g1, g2, g3, g4, g5, g6⟩ := g
  exact ⟨fun k => (gl k).trans (hl k), g1.trans h1, g2.trans h2, g3.trans h3, g4.trans h4, g5.trans h5, g6.trans h6⟩

/-- A change of the clocks, the presentation unit, the desk line and the ports keeps the store. -/
theorem keepsStored_of_frame {u : State}
    (h : ∃ k p l o, u = { s with clocks := k, pres := p, line := l, ports := o }) : KeepsStored s u := by
  obtain ⟨k, p, l, o, rfl⟩ := h
  exact ⟨fun _ => rfl, rfl, rfl, rfl, rfl, rfl, rfl⟩

theorem keepsStored_raise (p : Port) (n : Notice) (d : Detail) : KeepsStored s (s.raise p n d) := by
  obtain ⟨x, hx, -⟩ := s.raise_ports p n d
  exact keepsStored_of_frame ⟨_, _, _, x, hx⟩

theorem keepsStored_setPres (c : Nat) (p : Pres) : KeepsStored s (s.setPres c p) :=
  keepsStored_of_frame ⟨_, _, _, _, rfl⟩

theorem keepsStored_setClock (c : Nat) (k : Clock) : KeepsStored s (s.setClock c k) :=
  keepsStored_of_frame ⟨_, _, _, _, rfl⟩

theorem keepsStored_joinWait (who : Producer) (kind : WaitKind) : KeepsStored s (s.joinWait who kind) := by
  refine keepsStored_of_frame ?_
  unfold State.joinWait
  dsimp only
  split <;> exact ⟨_, _, _, _, rfl⟩

theorem keepsStored_setPausePending (c : Nat) (x : PauseCause) : KeepsStored s (s.setPausePending c x) := by
  rw [State.setPausePending_eq]
  split
  · exact .refl s
  · exact keepsStored_setClock ..

theorem keepsStored_dropBegin (c : Nat) : KeepsStored s (s.dropBegin c) := by
  obtain ⟨k, w, h⟩ := State.dropBegin_frame (s := s) c
  exact keepsStored_of_frame ⟨k, _, _, _, h⟩

theorem keepsStored_takePause (c : Nat) (x : PauseCause) (told : Bool) : KeepsStored s (s.takePause c x told) := by
  unfold State.takePause
  dsimp only
  split
  · exact keepsStored_setClock ..
  · split
    · exact (keepsStored_setClock c _).trans (keepsStored_raise ..)
    · exact keepsStored_setClock ..

theorem keepsStored_pauseRunning (c : Nat) (x : PauseCause) : KeepsStored s (s.pauseRunning c x) := by
  unfold State.pauseRunning
  dsimp only
  split
  · split
    · next v hv =>
      obtain ⟨q, p, hf⟩ := s.offer_frame hv
      exact (keepsStored_of_frame ⟨_, p, _, _, hf⟩).trans (keepsStored_takePause ..)
    · exact (keepsStored_setClock c _).trans (keepsStored_joinWait ..)
  · split
    · exact .refl s
    · exact .refl s
    · split
      · exact .refl s
      · exact keepsStored_setPausePending ..

theorem keepsStored_warnClock (c : Nat) : KeepsStored s (s.warnClock c) := by
  unfold State.warnClock
  dsimp only
  split
  case h_1 => exact keepsStored_pauseRunning ..
  case h_2 | h_3 => exact keepsStored_setPausePending ..
  case h_4 =>
    split
    · exact ((keepsStored_dropBegin c).trans (keepsStored_setClock c _)).trans (keepsStored_raise ..)
    · exact keepsStored_setPausePending ..
  all_goals exact .refl s

theorem keepsStored_updLot (k : Nat) {f : LotRec → LotRec} (hf : ∀ r, bareLot (f r) = bareLot r) :
    KeepsStored s (s.updLot k f) := by
  obtain ⟨l, hl⟩ := s.updLot_frame k f
  refine ⟨fun j => ?_, by rw [hl]; exact ⟨rfl, rfl, rfl, rfl, rfl, rfl⟩⟩
  rw [State.updLot_lot]
  split
  · next hj =>
    rw [Option.map_map, hj]
    exact congrArg (Option.map · _) (funext hf)
  · rfl

theorem keepsStored_setLotState (k : Nat) (x : LotState) : KeepsStored s (s.setLotState k x) :=
  keepsStored_updLot k (f := fun r => { r with state := x }) fun _ => rfl

theorem keepsStored_lotJoins (k c : Nat) : KeepsStored s (s.lotJoins k c) :=
  keepsStored_updLot k (f := fun r => { r with state := .queued, clock := some c }) fun _ => rfl

theorem keepsStored_fillUpTo (n c : Nat) : KeepsStored s (State.fillUpTo n c s) := by
  induction n generalizing s with
  | zero => exact .refl s
  | succ n ih =>
    unfold State.fillUpTo
    dsimp only
    split
    · exact .refl s
    · split
      · split
        · exact .refl s
        · exact ((keepsStored_lotJoins _ c).trans (keepsStored_setPres ..)).trans ih
      · exact .refl s

theorem keepsStored_load (c : Nat) : KeepsStored s (s.load c) := by
  unfold State.load
  dsimp only
  split
  · exact .refl s
  · exact (((keepsStored_setPres c _).trans (keepsStored_setLotState ..)).trans (keepsStored_setClock ..)).trans
      (keepsStored_fillUpTo ..)

/-- While the supply is below WARN a pending start that comes due is dropped (R72). -/
theorem keepsStored_judgeStart (h : s.power.monitor = .low) (c : Nat) : KeepsStored s (s.judgeStart c) := by
  unfold State.judgeStart
  split
  · rw [State.beginPending_failed (.inl (State.beginRun_noSupply h c _))]
    exact (keepsStored_setPres ..).trans (keepsStored_raise ..)
  · exact .refl s

theorem KeepsStored.low {u : State} (h : KeepsStored s u) (hs : s.power.monitor = .low) : u.power.monitor = .low := by
  obtain ⟨-, -, -, -, -, h, -⟩ := h
  rw [h, hs]

theorem keepsStored_advanceClock (h : s.power.monitor = .low) (quiet : Option Nat) (c : Nat) :
    KeepsStored s (s.advanceClock quiet c) := by
  unfold State.advanceClock
  dsimp only
  split
  · exact keepsStored_setPres ..
  · split
    · unfold State.autoLoad
      dsimp only
      have hload := keepsStored_load (s := s) c
      split
      · have hset := hload.trans (keepsStored_setPres c { (s.load c).presOf c with pending := some .auto })
        exact hset.trans (keepsStored_judgeStart (hset.low h) c)
      · exact hload
    · split
      · exact .refl s
      · exact (keepsStored_setPres c _).trans (keepsStored_raise ..)

theorem keepsStored_each {f : Nat → State → State}
    (hf : ∀ c q, q.power.monitor = .low → KeepsStored q (f c q)) (l : List Nat) (h : s.power.monitor = .low) :
    KeepsStored s (State.each f l s) := by
  induction l generalizing s with
  | nil => exact .refl s
  | cons c l ih => exact (hf c s h).trans (ih ((hf c s h).low h))

theorem keepsStored_goLow : KeepsStored (s.setMonitor .low) s.goLow := by
  have hraise := keepsStored_raise (s := s.setMonitor .low) .sup .supply (.supply false)
  have hlow : (s.setMonitor .low).power.monitor = .low := rfl
  have hwarn := hraise.trans (keepsStored_each (f := fun c q => q.warnClock c) (fun c q _ => keepsStored_warnClock c)
    clockNumbers (hraise.low hlow))
  exact hwarn.trans (keepsStored_each (f := fun c q => q.advanceClock none c) (fun c q h => keepsStored_advanceClock h none c)
    clockNumbers (hwarn.low hlow))

/-! ## The store as it is found (R158, log entry 8) -/

theorem State.find_power (s : State) (x : StoreFind) : (s.find x).power = s.power := by
  cases x with
  | values second found w => cases second <;> rfl
  | lot | account | entry | change => rfl

theorem State.finds_power (l : List StoreFind) (s : State) : (l.foldl State.find s).power = s.power := by
  induction l generalizing s with
  | nil => rfl
  | cons x l ih => exact (ih _).trans (s.find_power x)

/-! ## The warning, clock by clock (R81) -/

theorem State.warnClock_running (h : (s.clock c).state = .running) : s.warnClock c = s.pauseRunning c .supply := by
  unfold State.warnClock
  dsimp only
  rw [h]

theorem State.pauseRunning_supplyStop {w : WaitHalt} (hw : (s.clock c).waitHalt = some w) (hr : w.reason = .stop) :
    s.pauseRunning c .supply = s.setPausePending c .supply := by
  unfold State.pauseRunning
  dsimp only
  rw [hw]
  dsimp only
  rw [hr]
  exact if_neg (by rintro ⟨-, h⟩; cases h)

theorem State.pauseRunning_full {n : Nat} (hw : (s.clock c).waitHalt = none) (hp : (s.clock c).position = some n)
    (hno : s.NoPlace) (cause : PauseCause) :
    s.pauseRunning c cause =
      (s.setClock c
        { s.clock c with
          waitHalt := some { reason := .pause, position := n, cause := some cause, candidate := none, replaced := none }
          timer := none }).joinWait (.clock c) .halt := by
  unfold State.pauseRunning State.offerHalt
  dsimp only
  rw [hw, s.offer_of_noPlace _ hno, show (s.clock c).position.getD 0 = n from congrArg (Option.getD · 0) hp]
  rfl

theorem State.warnClock_pausing
    (h : (s.clock c).state = .settling ∨ (s.clock c).state = .held ∨
      (s.clock c).state = .restartWait ∧ (s.clock c).waitBegin = none) :
    s.warnClock c = s.setPausePending c .supply := by
  unfold State.warnClock
  dsimp only
  obtain h | h | ⟨h, hb⟩ := h
  · rw [h]
  · rw [h]
  · rw [h, hb]
    rfl

theorem State.setWaits_setClock (k : Clock) (w : List WaitEntry) :
    (s.setClock c k).setWaits w = (s.setWaits w).setClock c k := rfl

theorem State.pauseAt_eq {k : Clock} (hk : s.clock c = k) (n : Nat) (x : PauseCause) :
    s.pauseAt c n x = s.setClock c (k.pausedAt n x) := by
  subst hk
  rfl

theorem State.warnClock_waitingBegin (h : (s.clock c).state = .restartWait) (hb : (s.clock c).waitBegin ≠ none) :
    s.warnClock c =
      ((s.setWaits (s.line.waits.filter fun e => e.who ≠ .clock c)).setClock c
        ({ s.clock c with waitBegin := none }.pausedAt ((s.clock c).nextStart.getD 0) .supply)).raise .auc .clockPaused
          (.number c) := by
  have hwarn : s.warnClock c = ((s.dropBegin c).pauseAt c ((s.clock c).nextStart.getD 0) .supply).raisePaused c := by
    unfold State.warnClock
    dsimp only
    rw [h]
    exact if_pos (Option.isSome_iff_ne_none.2 hb)
  rw [hwarn, State.dropBegin_of_waiting hb]
  refine congrArg (State.raise · .auc .clockPaused (.number c)) ?_
  rw [State.setWaits_setClock, State.pauseAt_eq (State.setClock_clock_same (s.setWaits _) c _),
    State.setClock_setClock]

theorem State.warnClock_rest (h : (s.clock c).state = .idle ∨ (s.clock c).state = .loaded ∨ (s.clock c).state = .paused) :
    s.warnClock c = s := by
  unfold State.warnClock
  dsimp only
  obtain h | h | h := h <;> rw [h]

/-! ## The halt (R160) -/

/-- A halted part: the retained store and the sensed levels of `s`, the supply as given, power-up values else. -/
def State.haltedAt (s : State) (l : SupplyLevel) (active : Bool) : State :=
  { State.reset with
    lots := s.lots, accounts := s.accounts, journal := s.journal, change := s.change, sense := s.sense
    ports := Ports.reset, power := { monitor := .off, level := l, resetActive := active }, pending := s.pending }

theorem State.halt_eq (s : State) : s.halt = s.haltedAt s.power.level s.power.resetActive := rfl

theorem KeepsStored.halt {u : State} (h : KeepsStored s u) :
    u.halt = { s.haltedAt s.power.level s.power.resetActive with lots := u.lots } := by
  obtain ⟨-, h1, h2, h3, h4, h5, h6⟩ := h
  unfold State.halt
  rw [h1, h2, h3, h4, h5, h6]
  rfl

theorem exec_supplyFail_low (h : s.power.monitor = .low) :
    exec .supplyFail s = .next (s.haltedAt .belowFail s.power.resetActive) := by
  change execSupplyFail s = _
  unfold execSupplyFail
  rw [h]
  exact congrArg Host.Outcome.next (s.setLevel .belowFail).halt_eq

theorem exec_supplyFail_normal (h : s.power.monitor = .normal) :
    exec .supplyFail s = .next (s.setLevel .belowFail).goLow.halt := by
  change execSupplyFail s = _
  unfold execSupplyFail
  rw [h]

theorem exec_supplyFail_off (h : s.power.monitor = .off ∨ s.power.monitor = .starting) :
    exec .supplyFail s =
      .next { s with power := { monitor := .off, level := .belowFail, resetActive := s.power.resetActive } } := by
  change execSupplyFail s = _
  unfold execSupplyFail
  obtain h | h := h
  · rw [h]
    refine congrArg Host.Outcome.next ?_
    unfold State.setLevel
    dsimp only
    rw [h]
  · rw [h]
    rfl

theorem exec_resetLineAssert_on (h : s.isOn = true) :
    exec .resetLineAssert s = .next (s.haltedAt s.power.level true) := by
  change execResetLineAssert s = _
  unfold execResetLineAssert
  obtain h | h : s.power.monitor = .normal ∨ s.power.monitor = .low := by simpa [State.isOn] using h
  · rw [h]
    exact congrArg Host.Outcome.next (s.setReset true).halt_eq
  · rw [h]
    exact congrArg Host.Outcome.next (s.setReset true).halt_eq

theorem exec_resetLineAssert_off (h : s.power.monitor = .off ∨ s.power.monitor = .starting) :
    exec .resetLineAssert s =
      .next { s with power := { monitor := .off, level := s.power.level, resetActive := true } } := by
  change execResetLineAssert s = _
  unfold execResetLineAssert
  obtain h | h := h
  · rw [h]
    refine congrArg Host.Outcome.next ?_
    unfold State.setReset
    dsimp only
    rw [h]
  · rw [h]
    rfl

theorem exec_supplyReturn_off (l : List StoreFind) (h : s.power.monitor = .off) :
    exec (.supplyReturn l) s =
      .next { l.foldl State.find s with
        power := { monitor := if s.power.resetActive then .off else .starting, level := .good,
                   resetActive := s.power.resetActive } } := by
  have hp := s.finds_power l
  change execSupplyReturn l s = _
  unfold execSupplyReturn
  rw [h]
  refine congrArg Host.Outcome.next ?_
  generalize l.foldl State.find s = u at hp ⊢
  cases hr : s.power.resetActive with
  | true =>
    refine (if_pos rfl).trans ?_
    unfold State.setLevel
    dsimp only
    rw [hp, h, hr]
    rfl
  | false =>
    refine (if_neg (by decide)).trans ?_
    unfold State.setMonitor State.setLevel
    dsimp only
    rw [hp, hr]
    rfl

theorem exec_supplyReturn_on (l : List StoreFind) (h : s.power.monitor ≠ .off) : exec (.supplyReturn l) s = .next s := by
  change execSupplyReturn l s = _
  unfold execSupplyReturn
  split
  · next hm => exact absurd hm h
  · rfl
  · rfl
  · rfl

theorem SupplyLevel.atRelease_eq (l : SupplyLevel) : l.atRelease = if l = .good then .good else .belowWarn := by
  cases l <;> rfl

theorem exec_resetLineRelease_active (h : s.power.resetActive = true) :
    exec .resetLineRelease s =
      .next { s with power :=
        { monitor := .starting, level := if s.power.level = .good then .good else .belowWarn, resetActive := false } } := by
  rw [← SupplyLevel.atRelease_eq]
  exact congrArg _ (if_pos h)

theorem exec_resetLineRelease_inactive (h : s.power.resetActive = false) : exec .resetLineRelease s = .next s :=
  congrArg _ (if_neg (by simp [h]))

/-! ## The supply below and above WARN (R158) -/

theorem exec_supplyWarn_normal (h : s.power.monitor = .normal) (hl : s.power.level = .good) :
    exec .supplyWarn s = .next (s.setLevel .belowWarn).goLow := by
  change execSupplyWarn s = _
  unfold execSupplyWarn
  dsimp only
  rw [if_pos hl, if_pos h]

theorem exec_supplyWarn_other (h : s.power.monitor ≠ .normal) (hl : s.power.level = .good) :
    exec .supplyWarn s = .next (s.setLevel .belowWarn) :=
  congrArg _ ((if_pos hl).trans (if_neg h))

theorem exec_supplyWarn_idle (hl : s.power.level ≠ .good) : exec .supplyWarn s = .next s := congrArg _ (if_neg hl)

theorem exec_supplyRestored_low (h : s.power.monitor = .low) (hl : s.power.level = .belowWarn) :
    exec .supplyRestored s = .next (s.setLevel .good).goNormal := by
  change execSupplyRestored s = _
  unfold execSupplyRestored
  dsimp only
  rw [if_pos hl, if_pos h]

theorem exec_supplyRestored_other (h : s.power.monitor ≠ .low) (hl : s.power.level = .belowWarn) :
    exec .supplyRestored s = .next (s.setLevel .good) :=
  congrArg _ ((if_pos hl).trans (if_neg h))

theorem exec_supplyRestored_idle (hl : s.power.level ≠ .belowWarn) : exec .supplyRestored s = .next s :=
  congrArg _ (if_neg hl)

end Sys2Proof.Machine

namespace Sys2Proof.Proofs

open Machine

/-- Settles O58: each event by the monitor's state and the supply level, and the warning by the clock's state. -/
theorem supplyAndResetLine : Obligations.SupplyAndResetLine := by
  constructor
  · intro s powered halted p
    refine ⟨?_, ?_, exec_supplyWarn_idle, ?_, ?_, exec_supplyRestored_idle, exec_supplyFail_low, ?_, exec_supplyFail_off,
      exec_resetLineAssert_on, exec_resetLineAssert_off, exec_supplyReturn_off, exec_supplyReturn_on,
      exec_resetLineRelease_active, exec_resetLineRelease_inactive⟩
    · intro hm hl
      refine (exec_supplyWarn_normal hm hl).trans (congrArg Host.Outcome.next ?_)
      unfold State.goLow State.setMonitor State.setLevel
      rfl
    · intro hm hl
      exact exec_supplyWarn_other hm hl
    · intro hm hl
      refine (exec_supplyRestored_low hm hl).trans (congrArg Host.Outcome.next ?_)
      unfold State.goNormal State.setMonitor State.setLevel
      rfl
    · intro hm hl
      exact exec_supplyRestored_other hm hl
    · intro hm
      have hkept := keepsStored_goLow (s := s.setLevel .belowFail)
      have hfail := exec_supplyFail_normal hm
      generalize (s.setLevel .belowFail).goLow = u at hkept hfail
      exact ⟨u.halt, hfail, hkept.halt, hkept.lots⟩
  · intro s c n k paused pausing
    refine ⟨fun hq hp hw => ⟨fun v hv => ?_, fun hno => ?_⟩, fun w hq hw => ?_, fun h => ?_, fun hq hb => ?_,
      State.warnClock_rest⟩
    · have hpause := (State.warnClock_running hq).trans (State.pauseRunning_placed hw hp hv .supply)
      have hk := State.placed_clock hv c
      exact ⟨fun hr => hpause.trans (State.takePause_lot hk hr hp .supply true),
        fun hr => hpause.trans (State.takePause_rehearsal hk hr .supply true)⟩
    · exact (State.warnClock_running hq).trans (State.pauseRunning_full hw hp hno .supply)
    · refine (State.warnClock_running hq).trans ?_
      split
      · next hr => exact (State.pauseRunning_supplyStop hw hr).trans (State.setPausePending_eq c .supply)
      · next hr => exact State.pauseRunning_waiting hw hr .supply
    · exact (State.warnClock_pausing h).trans (State.setPausePending_eq c .supply)
    · exact State.warnClock_waitingBegin hq hb

end Sys2Proof.Proofs
end

section
/-! The power-up sequence (R161 to R163). -/

namespace Sys2Proof.Machine

set_option Elab.async false

variable {s : State}

/-! ## Step 1: the change record (R161) -/

/-- The records of a list are written one after the other. -/
def Tab.setAll {α β : Type} [DecidableEq α] (d : α) (g : β → α) (l : List (Nat × β)) (t : Tab α) : Tab α :=
  l.foldl (fun q c => Tab.set d q c.1 (g c.2)) t

section
variable {α β : Type} [DecidableEq α] {d : α} {g : β → α}

theorem Tab.setAll_cons (c : Nat × β) (l : List (Nat × β)) (t : Tab α) :
    Tab.setAll d g (c :: l) t = Tab.setAll d g l (Tab.set d t c.1 (g c.2)) := rfl

theorem Tab.get_setAll_of_notMem {l : List (Nat × β)} {k : Nat} (h : k ∉ l.map (·.1)) (t : Tab α) :
    Tab.get d (Tab.setAll d g l t) k = Tab.get d t k := by
  induction l generalizing t with
  | nil => rfl
  | cons c l ih =>
    rw [List.map_cons, List.mem_cons, not_or] at h
    obtain ⟨hc, hl⟩ := h
    rw [Tab.setAll_cons, ih hl, Tab.get_set_other _ _ _ _ _ hc]

theorem Tab.get_setAll_of_mem {l : List (Nat × β)} {k : Nat} {x : β} (hnd : (l.map (·.1)).Nodup) (h : (k, x) ∈ l)
    (t : Tab α) : Tab.get d (Tab.setAll d g l t) k = g x := by
  induction l generalizing t with
  | nil => cases h
  | cons c l ih =>
    rw [List.map_cons, List.nodup_cons] at hnd
    obtain ⟨hc, hnd⟩ := hnd
    rw [Tab.setAll_cons]
    rcases List.mem_cons.1 h with rfl | h
    · rw [Tab.get_setAll_of_notMem hc, Tab.get_set_same]
    · exact ih hnd h _

end

theorem Tab.mem_of_get {α : Type} {d v : α} {t : Tab α} {k : Nat} (h : Tab.get d t k = v) (hv : v ≠ d) :
    (k, v) ∈ t := by
  induction t with
  | nil => exact absurd h.symm hv
  | cons c t ih =>
    unfold Tab.get at h
    split at h
    · next hk =>
      obtain ⟨j, w⟩ := c
      obtain rfl : j = k := hk
      obtain rfl : w = v := h
      exact List.mem_cons_self
    · exact List.mem_cons_of_mem _ (ih h)

theorem State.foldl_setLot (l : List (Nat × Option LotRec)) (s : State) :
    l.foldl (fun q c => q.setLot c.1 c.2) s =
      { s with lots := Tab.setAll LotCell.free (fun r => { lot := r, found := none }) l s.lots } := by
  induction l generalizing s with
  | nil => rfl
  | cons c l ih => rw [List.foldl_cons, ih]; rfl

theorem State.foldl_setAcct (l : List (Nat × Account)) (s : State) :
    l.foldl (fun q c => q.setAcct c.1 c.2) s =
      { s with accounts := Tab.setAll AcctCell.vacant (fun r => { acct := r, found := none }) l s.accounts } := by
  induction l generalizing s with
  | nil => rfl
  | cons c l ih => rw [List.foldl_cons, ih]; rfl

theorem State.foldl_setPlace (l : List (Nat × Option JEntry)) (s : State) :
    l.foldl (fun q c => q.setPlace c.1 c.2) s =
      { s with journal := { s.journal with places := Tab.setAll none id l s.journal.places } } := by
  induction l generalizing s with
  | nil => rfl
  | cons c l ih => rw [List.foldl_cons, ih]; rfl

/-- A copy of the journal's values after a change record is applied. -/
def copyAfter (values : Option JournalValues) (c : ValuesCopy) : ValuesCopy :=
  (values.map fun v => { values := v, found := none }).getD c

/-- What applying a change record writes, table by table (R161). -/
theorem State.applyChange_eq (s : State) (r : ChangeRec) :
    s.applyChange r =
      { s with
        lots := Tab.setAll LotCell.free (fun x => { lot := x, found := none }) r.lots s.lots
        accounts := Tab.setAll AcctCell.vacant (fun x => { acct := x, found := none }) r.accounts s.accounts
        journal :=
          { copy1 := copyAfter r.values s.journal.copy1
            copy2 := copyAfter r.values s.journal.copy2
            places := Tab.setAll none id r.entries s.journal.places } } := by
  unfold State.applyChange
  dsimp only
  rw [State.foldl_setLot, State.foldl_setAcct, State.foldl_setPlace]
  cases r.values <;> rfl

/-- Step 1 writes the store alone, and leaves no change record. -/
theorem State.handleChange_frame (s : State) :
    ∃ l a j, s.handleChange = { s with lots := l, accounts := a, journal := j, change := none } := by
  unfold State.handleChange
  split
  · next h => exact ⟨s.lots, s.accounts, s.journal, by rw [← h]⟩
  · split
    · rw [State.applyChange_eq]
      exact ⟨_, _, _, rfl⟩
    · exact ⟨_, _, _, rfl⟩

/-! ## Step 2: the journal's values rebuilt (R162) -/

theorem seqLater_asymm {a b : Nat} (h : seqLater a b = true) : seqLater b a = false := by
  unfold seqLater seqDist Config.lastSequence at *
  simp only [Bool.and_eq_true, decide_eq_true_eq, Bool.and_eq_false_iff, decide_eq_false_iff_not] at h ⊢
  omega

theorem newestGood_eq_none {l : List (Nat × Option JEntry)}
    (h : ∀ x ∈ l, ∀ e, x.2 = some e → entryPasses e = false) : newestGood l = none := by
  induction l with
  | nil => rfl
  | cons c l ih =>
    have hc : c.2.filter entryPasses = none := Option.filter_eq_none_iff.2 fun e he => by
      simp [h c List.mem_cons_self e he]
    unfold newestGood
    rw [hc, ih fun x hx => h x (List.mem_cons_of_mem _ hx)]

theorem newestGood_mem {l : List (Nat × Option JEntry)} {k q : Nat} (h : newestGood l = some (k, q)) :
    ∃ y, (k, some y) ∈ l ∧ entryPasses y = true ∧ y.seq = q := by
  induction l with
  | nil => cases h
  | cons c l ih =>
    obtain ⟨j, o⟩ := c
    unfold newestGood at h
    have htail : newestGood l = some (k, q) → ∃ y, (k, some y) ∈ (j, o) :: l ∧ entryPasses y = true ∧ y.seq = q :=
      fun h => (ih h).imp fun y hy => ⟨List.mem_cons_of_mem _ hy.1, hy.2⟩
    have hhead : ∀ e, o.filter entryPasses = some e → (j, e.seq) = (k, q) →
        ∃ y, (k, some y) ∈ (j, o) :: l ∧ entryPasses y = true ∧ y.seq = q := fun e he hk => by
      obtain ⟨rfl, rfl⟩ := Prod.mk.inj hk
      obtain ⟨rfl, hp⟩ := Option.filter_eq_some_iff.1 he
      exact ⟨e, List.mem_cons_self, hp, rfl⟩
    split at h
    · exact htail h
    · next e he _ => exact hhead e he (Option.some.inj h)
    · next e k' q' he hl =>
      split at h
      · exact hhead e he (Option.some.inj h)
      · exact htail (hl.trans h)

/-- The entry issued last is found, wherever it stands (R162). -/
theorem newestGood_of_latest {l : List (Nat × Option JEntry)} {k : Nat} {e : JEntry}
    (hl : l.Pairwise fun a b => a.1 < b.1) (hk : (k, some e) ∈ l) (he : entryPasses e = true)
    (h : ∀ x ∈ l, ∀ y, x.2 = some y → entryPasses y = true → x.1 ≠ k → seqLater e.seq y.seq = true) :
    newestGood l = some (k, e.seq) := by
  induction l with
  | nil => cases hk
  | cons c l ih =>
    obtain ⟨hc, hl⟩ := List.pairwise_cons.1 hl
    unfold newestGood
    rcases List.mem_cons.1 hk with rfl | hk
    · rw [show (some e).filter entryPasses = some e from Option.filter_eq_some_iff.2 ⟨rfl, he⟩]
      cases hn : newestGood l with
      | none => rfl
      | some r =>
        obtain ⟨j, q⟩ := r
        obtain ⟨y, hy, hp, rfl⟩ := newestGood_mem hn
        exact if_pos (h _ (List.mem_cons_of_mem _ hy) y rfl hp (Nat.ne_of_gt (hc _ hy)))
    · rw [ih hl hk fun x hx => h x (List.mem_cons_of_mem _ hx)]
      cases hf : c.2.filter entryPasses with
      | none => rfl
      | some y =>
        obtain ⟨hy, hp⟩ := Option.filter_eq_some_iff.1 hf
        have hlater := h c List.mem_cons_self y hy hp (Nat.ne_of_lt (hc _ hk))
        exact if_neg (by simp [seqLater_asymm hlater])

theorem seqBack_zero {q : Nat} (h : 1 ≤ q) (h' : q ≤ 4294967295) : seqBack q 0 = q := by
  unfold seqBack Config.lastSequence
  omega

theorem seqBack_seqBack {q a : Nat} (h : 1 ≤ q) (h' : q ≤ 4294967295) (ha : a ≤ 8192) (b : Nat) (hb : b ≤ 2) :
    seqBack (seqBack q a) b = seqBack q (a + b) := by
  unfold seqBack Config.lastSequence
  omega

/-- Nothing that continues the range stands behind place `k` (R162). -/
theorem State.runBack_stop {n k q : Nat} (h : 0 < n → ∀ y, s.goodEntry (placeBack k) = some y → y.seq ≠ seqBack q 1)
    (h' : 1 < n → s.goodEntry (placeBack k) = none →
      ∀ y, s.goodEntry (placeBack (placeBack k)) = some y → y.seq ≠ seqBack q 2) : s.runBack n k q = 0 := by
  match n with
  | 0 => rfl
  | 1 =>
    unfold State.runBack
    split
    · next y hy => exact if_neg (h (by omega) y hy)
    · rfl
  | n + 2 =>
    unfold State.runBack
    split
    · next y hy => exact if_neg (h (by omega) y hy)
    · next hn =>
      split
      · next y hy => exact if_neg (h' (by omega) hn y hy)
      · rfl

theorem State.runBack_next {n k q : Nat} {y : JEntry} (hy : s.goodEntry (placeBack k) = some y)
    (hq : y.seq = seqBack q 1) : s.runBack (n + 1) k q = 1 + s.runBack n (placeBack k) (seqBack q 1) := by
  rw [← hq]
  match n with
  | 0 =>
    unfold State.runBack
    rw [hy]
    exact if_pos hq
  | n + 1 =>
    conv_lhs => unfold State.runBack
    rw [hy]
    exact if_pos hq

theorem State.runBack_hole {n k q : Nat} {y : JEntry} (hn : s.goodEntry (placeBack k) = none)
    (hy : s.goodEntry (placeBack (placeBack k)) = some y) (hq : y.seq = seqBack q 2) :
    s.runBack (n + 2) k q = 2 + s.runBack n (placeBack (placeBack k)) (seqBack q 2) := by
  rw [← hq]
  conv_lhs => unfold State.runBack
  rw [hn, hy]
  exact if_pos hq

/-- The `i`th place before place `k`. -/
def placesBack (k i : Nat) : Nat := (k + 8192 - i) % 8192

theorem placeBack_placesBack {i : Nat} (k : Nat) (h : i ≤ 8191) : placeBack (placesBack k i) = placesBack k (i + 1) := by
  unfold placeBack placesBack Config.journalSize
  omega

/-- The held range runs back from place `k`, whose entry carries `q`, over `m` places, of which `hole` fail (R162). -/
structure State.RunsBack (s : State) (k q m : Nat) (hole : Nat → Bool) : Prop where
  small : m ≤ 8192
  first : hole (m - 1) = false
  single : ∀ i, hole i = true → hole (i + 1) = false
  fails : ∀ i, i < m → hole i = true → s.goodEntry (placesBack k i) = none
  good : ∀ i, i < m → hole i = false → ∃ y, s.goodEntry (placesBack k i) = some y ∧ y.seq = seqBack q i
  ends : m < 8192 →
    (∀ y, s.goodEntry (placesBack k m) = some y → y.seq ≠ seqBack q m) ∧
    (m < 8191 → s.goodEntry (placesBack k m) = none →
      ∀ y, s.goodEntry (placesBack k (m + 1)) = some y → y.seq ≠ seqBack q (m + 1))

/-- Behind the `i`th place of the range stand the rest of its places. -/
theorem State.RunsBack.runBack_eq {k q m : Nat} {hole : Nat → Bool} (h : s.RunsBack k q m hole) (hq : 1 ≤ q)
    (hq' : q ≤ 4294967295) {n i : Nat} (hn : n + i = 8191) (hi : i < m) :
    s.runBack n (placesBack k i) (seqBack q i) = m - 1 - i := by
  have hone : placeBack (placesBack k i) = placesBack k (i + 1) := placeBack_placesBack k (by omega)
  have hseq := fun b hb => seqBack_seqBack hq hq' (show i ≤ 8192 by omega) b hb
  rcases Nat.lt_or_ge (i + 1) m with hlt | hge
  · have hm := h.small
    cases hnext : hole (i + 1) with
    | false =>
      obtain ⟨y, hy, hs⟩ := h.good (i + 1) hlt hnext
      obtain ⟨n, rfl⟩ : ∃ j, n = j + 1 := ⟨n - 1, by omega⟩
      rw [State.runBack_next (y := y) (by rw [hone, hy]) (by rw [hseq 1 (by omega), hs]), hone, hseq 1 (by omega),
        h.runBack_eq hq hq' (by omega) hlt]
      omega
    | true =>
      have hthen := h.single _ hnext
      have hlt' : i + 2 < m := by
        rcases Nat.lt_or_ge (i + 2) m with h' | h'
        · exact h'
        · have hlast := h.first
          rw [show m - 1 = i + 1 by omega, hnext] at hlast
          cases hlast
      have htwo : placeBack (placeBack (placesBack k i)) = placesBack k (i + 2) := by
        rw [hone, placeBack_placesBack k (by omega)]
      obtain ⟨y, hy, hs⟩ := h.good (i + 2) hlt' hthen
      obtain ⟨n, rfl⟩ : ∃ j, n = j + 2 := ⟨n - 2, by omega⟩
      rw [State.runBack_hole (y := y) (by rw [hone, h.fails _ hlt hnext]) (by rw [htwo, hy])
        (by rw [hseq 2 (by omega), hs]), htwo, hseq 2 (by omega), h.runBack_eq hq hq' (by omega) hlt']
      omega
  · obtain rfl : m = i + 1 := by omega
    rw [State.runBack_stop, show i + 1 - 1 - i = 0 by omega]
    · intro hpos y hy
      rw [hone] at hy
      rw [hseq 1 (by omega)]
      exact (h.ends (by omega)).1 y hy
    · intro hpos hnone y hy
      have htwo : placeBack (placeBack (placesBack k i)) = placesBack k (i + 2) := by
        rw [hone, placeBack_placesBack k (by omega)]
      rw [htwo] at hy
      rw [hone] at hnone
      rw [hseq 2 (by omega)]
      exact (h.ends (by omega)).2 (by omega) hnone y hy
termination_by n

theorem State.rebuiltValues_of_newest {k q m : Nat} (h : newestGood s.journal.places = some (k, q))
    (hm : s.runBack 8191 k q = m - 1) (hpos : 1 ≤ m) :
    s.rebuiltValues = { used := m, reserved := 0, newest := some q, oldestPlace := (k + 8193 - m) % 8192 } := by
  unfold State.rebuiltValues
  rw [h]
  dsimp only
  rw [show Config.journalSize = 8192 from rfl, hm, show 1 + (m - 1) = m by omega]

/-! ## Step 5: the held entries (R163) -/

/-- What a held place with sequence `seq` reads after its check. -/
def checkedEntry (seq : Nat) : Option JEntry → Option JEntry
  | none => some (clearedEntry seq)
  | some e => if entryPasses e then some e else some { e with seq := seq, damaged := true }

theorem checkedEntry_good {e : JEntry} (h : entryPasses e = true) (seq : Nat) : checkedEntry seq (some e) = some e := by
  unfold checkedEntry
  dsimp only
  rw [if_pos h]

theorem checkedEntry_bad {e : JEntry} (h : ¬ entryPasses e = true) (seq : Nat) :
    checkedEntry seq (some e) = some { e with seq := seq, damaged := true } := by
  unfold checkedEntry
  dsimp only
  rw [if_neg h]

theorem State.checkPlace_place (s : State) (k seq j : Nat) :
    (s.checkPlace k seq).place j = if j = k then checkedEntry seq (s.place k) else s.place j := by
  unfold State.checkPlace
  split
  · next h => exact (s.setPlace_place k j _).trans (by rw [h]; rfl)
  · next e h =>
    rw [h]
    split
    · next hp =>
      split
      · next hj => rw [hj, h, checkedEntry_good hp]
      · rfl
    · next hp => exact (s.setPlace_place k j _).trans (by rw [checkedEntry_bad hp])

theorem State.each_checkPlace_cons (p q : Nat → Nat) (i : Nat) (l : List Nat) (s : State) :
    State.each (fun i u => u.checkPlace (p i) (q i)) (i :: l) s =
      State.each (fun i u => u.checkPlace (p i) (q i)) l (s.checkPlace (p i) (q i)) := rfl

/-- Checking a list of held places: each of them reads its entry checked, the others as they were. -/
theorem State.each_checkPlace {l : List Nat} {p q : Nat → Nat} (hnd : (l.map p).Nodup) (s : State) :
    (∀ i ∈ l, (State.each (fun i u => u.checkPlace (p i) (q i)) l s).place (p i) = checkedEntry (q i) (s.place (p i))) ∧
    ∀ j, j ∉ l.map p → (State.each (fun i u => u.checkPlace (p i) (q i)) l s).place j = s.place j := by
  induction l generalizing s with
  | nil => exact ⟨fun _ h => (List.not_mem_nil h).elim, fun _ _ => rfl⟩
  | cons i l ih =>
    rw [List.map_cons, List.nodup_cons] at hnd
    obtain ⟨hi, hnd⟩ := hnd
    obtain ⟨hin, hout⟩ := ih hnd (s.checkPlace (p i) (q i))
    rw [State.each_checkPlace_cons]
    refine ⟨fun j hj => ?_, fun j hj => ?_⟩
    · rcases List.mem_cons.1 hj with rfl | hj
      · exact (hout _ hi).trans (by rw [State.checkPlace_place, if_pos rfl])
      · have hne : p j ≠ p i := fun he => hi (List.mem_map.2 ⟨j, hj, he⟩)
        exact (hin j hj).trans (by rw [State.checkPlace_place, if_neg hne])
    · rw [List.map_cons, List.mem_cons, not_or] at hj
      obtain ⟨hne, hj⟩ := hj
      exact (hout j hj).trans (by rw [State.checkPlace_place, if_neg hne])

/-- The places of at most 8192 held entries are different places. -/
theorem heldPlaces_nodup {v : JournalValues} (h : v.used ≤ 8192) :
    ((List.range v.used).map fun i => (heldAt v i).1).Nodup := by
  refine List.Nodup.map_on (fun i hi j hj he => ?_) List.nodup_range
  rw [List.mem_range] at hi hj
  unfold heldAt Config.journalSize at he
  dsimp only at he
  omega

/-! ## The records at the end of the sequence -/

theorem State.retainedPowerUp_place (s : State) (v : JournalValues) (k : Nat) :
    (s.retainedPowerUp v).place k = (s.checkEntries v).place k := rfl

theorem State.retainedPowerUp_lot (h : Tab.wf LotCell.free s.lots = true) (v : JournalValues) (k : Nat) :
    (s.retainedPowerUp v).lot k =
      if (Tab.get LotCell.free s.lots k).passes then (s.lot k).map lotAtPowerUp else none := by
  obtain ⟨j, hj⟩ := s.checkEntries_frame v
  have hlots : (s.retainedPowerUp v).lots = Tab.mapAll LotCell.free (fun _ c => LotCell.powerUp c) s.lots := by
    change Tab.mapAll LotCell.free (fun _ c => LotCell.powerUp c) (s.checkEntries v).lots = _
    rw [hj]
  unfold State.lot
  rw [hlots, Tab.get_mapAll _ _ _ _ rfl h]
  unfold LotCell.powerUp
  split <;> rfl

theorem State.retainedPowerUp_acct (h : Tab.wf AcctCell.vacant s.accounts = true) (v : JournalValues) (n : Nat) :
    (s.retainedPowerUp v).acct n = (Tab.get AcctCell.vacant s.accounts n).powerUp.acct := by
  obtain ⟨j, hj⟩ := s.checkEntries_frame v
  have haccts : (s.retainedPowerUp v).accounts = Tab.mapAll AcctCell.vacant (fun _ c => AcctCell.powerUp c) s.accounts := by
    change Tab.mapAll AcctCell.vacant (fun _ c => AcctCell.powerUp c) (s.checkEntries v).accounts = _
    rw [hj]
  unfold State.acct
  rw [haccts, Tab.get_mapAll _ _ _ _ rfl h]

theorem AcctCell.powerUp_acct (c : AcctCell) :
    c.powerUp.acct =
      { c.acct with
        heldAmt := 0, desk := none
        state := if c.passes then c.acct.state else .damaged
        isOver := c.acct.saturated || decide (c.acct.limit < c.acct.openAmt + c.acct.billedAmt) } := by
  unfold AcctCell.powerUp acctAtPowerUp overAtPowerUp exposureExact
  cases c.passes <;> simp

theorem State.retainedPowerUp_values (s : State) (v : JournalValues) :
    (s.retainedPowerUp v).journal.copy1 = { values := { v with reserved := 0 }, found := none } ∧
    (s.retainedPowerUp v).journal.copy2 = { values := { v with reserved := 0 }, found := none } := ⟨rfl, rfl⟩

/-! ## The whole sequence (R163) -/

/-- The part at the end of the sequence: the store of `x`, the sensed levels and the supply of `s`, RETENTION pending on
SUP with its detail, and power-up values else. -/
def State.startedWith (s x : State) (detail : Detail) : State :=
  { State.reset with
    lots := x.lots, accounts := x.accounts, journal := x.journal, sense := s.sense, pending := s.pending
    ports := { Ports.reset with
      sup := { PortCtx.reset 6 with flags := [(2, { pending := true, again := false, detail := detail })] } }
    power := { s.power with monitor := if s.power.level = .good then .normal else .low } }

/-- The detail of RETENTION: the records that fail, and whether the values were rebuilt (R163). -/
def State.retention (b : State) : Detail :=
  .retention (b.lots.countP fun c => !c.2.passes) (b.accounts.countP fun c => !c.2.passes)
    (b.badEntries b.checkedValues.1) b.checkedValues.2

theorem State.powerUp_eq (s : State) :
    s.powerUp =
      if s.power.level = .good then
        s.startedWith (s.handleChange.retainedPowerUp s.handleChange.checkedValues.1) s.handleChange.retention
      else
        (s.startedWith (s.handleChange.retainedPowerUp s.handleChange.checkedValues.1) s.handleChange.retention).raise
          .sup .supply (.supply false) := by
  obtain ⟨l, a, j, hb⟩ := s.handleChange_frame
  unfold State.powerUp State.retention
  dsimp only
  generalize s.handleChange = b at hb
  generalize b.checkedValues = v
  obtain ⟨i, hi⟩ := b.checkEntries_frame v.1
  have hx : ∃ l' a' j', b.retainedPowerUp v.1 =
      { s with lots := l', accounts := a', journal := j', change := none } := by
    unfold State.retainedPowerUp
    rw [hi, hb]
    exact ⟨_, _, _, rfl⟩
  obtain ⟨l', a', j', hx⟩ := hx
  rw [hx]
  unfold State.startMonitor State.startedWith
  by_cases hl : s.power.level = .good
  · rw [if_pos hl, if_pos hl]
    exact if_pos hl
  · rw [if_neg hl, if_neg hl]
    exact if_neg hl

end Sys2Proof.Machine

namespace Sys2Proof.Proofs

open Machine

/-- Settles O59: the change record, the values, the entries, and the whole state at the end, each by its own lemma. -/
theorem powerUpSequenceRestoresThePart : Obligations.PowerUpSequenceRestoresThePart := by
  refine ⟨?_, ?_, ?_⟩
  · intro s hm hwf b v at' seqAt fails up detail
    have hb : b = s.handleChange := rfl
    clear_value b
    have hv : v = b.checkedValues.1 := by
      unfold State.checkedValues
      dsimp only [v]
      split
      · rfl
      · split <;> rfl
    have hrebuilt : b.checkedValues.2 = (!b.journal.copy1.passes && !b.journal.copy2.passes) := by
      unfold State.checkedValues
      dsimp only
      cases b.journal.copy1.passes <;> cases b.journal.copy2.passes <;> rfl
    clear_value v
    have hdetail : detail = b.retention := by
      unfold State.retention
      rw [hrebuilt, ← hv]
      rfl
    clear_value detail
    have hbwf : b.TablesWf := hb ▸ (offKept_handleChange (by simp [State.isOn, hm])).kept.tables hwf
    have hu := s.powerUp_eq
    rw [← hb, ← hv, ← hdetail] at hu
    obtain ⟨hulots, huaccts, hujournal⟩ : s.powerUp.lots = (b.retainedPowerUp v).lots ∧
        s.powerUp.accounts = (b.retainedPowerUp v).accounts ∧ s.powerUp.journal = (b.retainedPowerUp v).journal := by
      obtain ⟨x, hx, -⟩ := (s.startedWith (b.retainedPowerUp v) detail).raise_ports .sup .supply (.supply false)
      rw [hu]
      split
      · exact ⟨rfl, rfl, rfl⟩
      · rw [hx]
        exact ⟨rfl, rfl, rfl⟩
    have hstart : s.startedWith (b.retainedPowerUp v) detail = s.startedWith s.powerUp detail := by
      unfold State.startedWith
      rw [hulots, huaccts, hujournal]
    obtain ⟨hc1, hc2⟩ := b.retainedPowerUp_values v
    refine ⟨s.powerUp, congrArg Host.Outcome.next (if_pos hm), fun k => ?_, fun n => ?_, hujournal ▸ hc1, hujournal ▸ hc2,
      fun hused => ?_, ?_⟩
    · have hlot : s.powerUp.lot k = (b.retainedPowerUp v).lot k :=
        congrArg (fun t => (Tab.get LotCell.free t k).lot) hulots
      exact hlot.trans (State.retainedPowerUp_lot hbwf.lots v k)
    · have hacct : s.powerUp.acct n = (b.retainedPowerUp v).acct n :=
        congrArg (fun t => (Tab.get AcctCell.vacant t n).acct) huaccts
      exact (hacct.trans (State.retainedPowerUp_acct hbwf.accounts v n)).trans (AcctCell.powerUp_acct _)
    · have hplace : ∀ k, s.powerUp.place k = (b.checkEntries v).place k := fun k =>
        (congrArg (fun t : Journal => Tab.get none t.places k) hujournal).trans (b.retainedPowerUp_place v k)
      obtain ⟨hin, hout⟩ := State.each_checkPlace (q := fun i => (heldAt v i).2) (heldPlaces_nodup hused) b
      refine ⟨fun i hi => ?_, fun k hk => ?_⟩
      · refine (hplace _).trans ((hin i (List.mem_range.2 hi)).trans ?_)
        change checkedEntry _ (b.place (at' i)) = _
        cases b.place (at' i) <;> rfl
      · refine (hplace k).trans (hout k fun h => ?_)
        obtain ⟨i, hi, he⟩ := List.mem_map.1 h
        exact hk i (List.mem_range.1 hi) he.symm
    · rw [hstart] at hu
      exact hu
  · intro s r hlots haccts hentries b
    have hb : b = _ := s.applyChange_eq r
    clear_value b
    subst hb
    refine ⟨fun k x hx => Tab.get_setAll_of_mem (g := fun x => { lot := x, found := none }) hlots hx s.lots,
      fun k hk => Tab.get_setAll_of_notMem (g := fun x => { lot := x, found := none }) hk s.lots,
      fun n x hx => Tab.get_setAll_of_mem (g := fun x => { acct := x, found := none }) haccts hx s.accounts,
      fun n hn => Tab.get_setAll_of_notMem (g := fun x => { acct := x, found := none }) hn s.accounts,
      fun k x hx => Tab.get_setAll_of_mem (g := id) hentries hx s.journal.places,
      fun k hk => Tab.get_setAll_of_notMem (g := id) hk s.journal.places, fun h => ?_,
      fun x h => ?_, rfl⟩
    · rw [h]
      exact ⟨rfl, rfl⟩
    · rw [h]
      exact ⟨rfl, rfl⟩
  · intro s back
    refine ⟨fun h => ?_, fun k m e hole hk hwf he h1 h2 hlatest hm1 hm2 h0 hlast hsingle hfails hgood hends => ?_⟩
    · unfold State.rebuiltValues
      rw [newestGood_eq_none h]
    · obtain ⟨hplace, hpass⟩ := Option.filter_eq_some_iff.1 he
      have hback : placesBack k 0 = k := by unfold placesBack; omega
      have hruns : s.RunsBack k e.seq m hole := ⟨hm2, hlast, hsingle, hfails, hgood, hends⟩
      have hrun := hruns.runBack_eq h1 h2 (n := 8191) (i := 0) rfl hm1
      rw [hback, seqBack_zero h1 h2] at hrun
      exact State.rebuiltValues_of_newest
        (newestGood_of_latest (Tab.wf_iff _ _ |>.1 hwf.places).2 (Tab.mem_of_get hplace nofun) hpass hlatest) hrun hm1

end Sys2Proof.Proofs
end

section
/-! The presentation unit: loading, filling, announcing, and the judging of loads and pending starts (R48 to R58). -/

namespace Sys2Proof.Machine

set_option Elab.async false

variable {s : State} {t c : Nat}

/-! ## CLOCK_LOAD (R52) -/

section
variable (hc : c < 6)
include hc

theorem State.clockLoadBlock_rehearsal (h : (s.clock c).rehearsal = true) : s.clockLoadBlock c = .refuse s .mode :=
  (clockGuard_of_lt hc _).trans (if_pos h)

variable (h : (s.clock c).rehearsal = false)
include h

theorem State.clockLoadBlock_busy (hq : (s.clock c).state ≠ .idle) : s.clockLoadBlock c = .refuse s .wrongState :=
  (clockGuard_of_lt hc _).trans ((if_neg (by simp [h])).trans (if_pos hq))

theorem State.clockLoadBlock_idle (hq : (s.clock c).state = .idle) :
    s.clockLoadBlock c =
      match (s.presOf c).queue with
      | [] => .refuse s .empty
      | e :: _ => if s.lotIs e.lot .announced then .ok (s.load c).settle (u2 e.lot) else .refuse s .notAnnounced :=
  (clockGuard_of_lt hc _).trans ((if_neg (by simp [h])).trans (if_neg (by simp [hq])))

theorem State.clockLoadBlock_empty (hq : (s.clock c).state = .idle) (hp : (s.presOf c).queue = []) :
    s.clockLoadBlock c = .refuse s .empty := by
  rw [State.clockLoadBlock_idle hc h hq, hp]

theorem State.clockLoadBlock_head (hq : (s.clock c).state = .idle) {e : QEntry} {rest : List QEntry}
    (hp : (s.presOf c).queue = e :: rest) :
    s.clockLoadBlock c =
      if s.lotIs e.lot .announced then .ok (s.load c).settle (u2 e.lot) else .refuse s .notAnnounced := by
  rw [State.clockLoadBlock_idle hc h hq, hp]

end

/-! ## The fill (R48) -/

theorem State.fill_unnamed (h : (s.presOf c).train = none) : s.fill c = s := by
  unfold State.fill
  rw [show Config.queueSize = 7 + 1 from rfl]
  unfold State.fillUpTo
  dsimp only
  rw [h]

/-- The lots of a train that can still join a queue, in train order. -/
def State.waitingOn (s : State) (n : Nat) : List Nat := (s.train n).lots.filter fun k => s.lotIs k .onTrain

theorem State.firstOnTrain_eq (s : State) (n : Nat) : s.firstOnTrain n = (s.waitingOn n).head? :=
  List.head?_filter.symm

theorem State.lotJoins_lot (s : State) (k c j : Nat) :
    (s.lotJoins k c).lot j =
      if j = k then (s.lot k).map fun r => { r with state := .queued, clock := some c } else s.lot j :=
  State.updLot_lot (s := s) k j _

/-- The lot that joins the queue leaves the list of those that can. -/
theorem State.waitingOn_lotJoins {n k : Nat} {l : List Nat} (hnd : (s.train n).lots.Nodup) (h : s.waitingOn n = k :: l)
    {u : State} (ht : u.train n = s.train n) (hu : ∀ j, u.lot j = (s.lotJoins k c).lot j) : u.waitingOn n = l := by
  have hk : ∀ j, u.lotIs j .onTrain = (s.lotIs j .onTrain && decide (j ≠ k)) := fun j => by
    unfold State.lotIs
    rw [hu, State.lotJoins_lot]
    by_cases hj : j = k
    · subst hj
      cases s.lot j <;> simp
    · simp [hj]
  have hfilter : u.waitingOn n = (s.waitingOn n).filter fun j => decide (j ≠ k) := by
    unfold State.waitingOn
    rw [ht, List.filter_filter]
    exact List.filter_congr fun j _ => (hk j).trans (Bool.and_comm ..)
  have hnd' : (k :: l).Nodup := h ▸ hnd.filter _
  rw [hfilter, h, List.filter_cons_of_neg (by simp)]
  refine List.filter_eq_self.2 fun j hj => decide_eq_true fun he => ?_
  exact (List.nodup_cons.1 hnd').1 (he ▸ hj)

theorem State.fillUpTo_done {m : Nat} (n : Nat) (h : (s.presOf c).train = some m)
    (hdone : (s.waitingOn m).take (8 - (s.presOf c).queue.length) = []) : State.fillUpTo n c s = s := by
  cases n with
  | zero => rfl
  | succ n =>
    unfold State.fillUpTo
    dsimp only
    split
    · rfl
    · next m' hm =>
      obtain rfl : m' = m := Option.some.inj (hm.symm.trans h)
      split
      · next hlen =>
        have hlen : (s.presOf c).queue.length < 8 := hlen
        rw [State.firstOnTrain_eq]
        cases hw : s.waitingOn m' with
        | nil => rfl
        | cons k l =>
          obtain ⟨j, hj⟩ : ∃ j, 8 - (s.presOf c).queue.length = j + 1 := ⟨7 - (s.presOf c).queue.length, by omega⟩
          rw [hw, hj] at hdone
          cases hdone
      · rfl

/-- One lot of a fill: the train's next lot joins the tail of the queue. -/
theorem State.fillUpTo_next {m k : Nat} {l : List Nat} (n : Nat) (h : (s.presOf c).train = some m)
    (hw : s.waitingOn m = k :: l) (hlen : (s.presOf c).queue.length < 8) :
    State.fillUpTo (n + 1) c s =
      State.fillUpTo n c ((s.lotJoins k c).setPres c
        { s.presOf c with queue := (s.presOf c).queue ++ [{ lot := k, origin := .train, announce := none }] }) := by
  conv_lhs => unfold State.fillUpTo
  dsimp only
  split
  · next hm => cases hm.symm.trans h
  · next m' hm =>
    obtain rfl : m' = m := Option.some.inj (hm.symm.trans h)
    refine (if_pos hlen).trans ?_
    rw [State.firstOnTrain_eq, hw] <;> rfl

/-- What a fill of at most `n` lots takes from the presenting train: the lots, and the entries of the queue. -/
theorem State.fillUpTo_of_train {m : Nat} (n : Nat) (h : (s.presOf c).train = some m) (hnd : (s.train m).lots.Nodup) :
    (∀ j, (State.fillUpTo n c s).lot j =
      if j ∈ (s.waitingOn m).take (min n (8 - (s.presOf c).queue.length)) then
        (s.lot j).map fun r => { r with state := .queued, clock := some c }
      else s.lot j) ∧
    (State.fillUpTo n c s).presOf c =
      { s.presOf c with
        queue := (s.presOf c).queue ++ ((s.waitingOn m).take (min n (8 - (s.presOf c).queue.length))).map
          fun k => { lot := k, origin := .train, announce := none } } := by
  induction n generalizing s with
  | zero =>
    rw [Nat.zero_min, List.take_zero, List.map_nil, List.append_nil]
    exact ⟨fun j => rfl, rfl⟩
  | succ n ih =>
    cases hfirst : (s.waitingOn m).take (8 - (s.presOf c).queue.length) with
    | nil =>
      have hnone : (s.waitingOn m).take (min (n + 1) (8 - (s.presOf c).queue.length)) = [] := by
        rw [← List.take_take, hfirst, List.take_nil]
      rw [State.fillUpTo_done _ h hfirst, hnone, List.map_nil, List.append_nil]
      exact ⟨fun j => rfl, rfl⟩
    | cons k' l' =>
      have hlen : (s.presOf c).queue.length < 8 := by
        refine Nat.lt_of_not_le fun hge => ?_
        rw [show 8 - (s.presOf c).queue.length = 0 by omega, List.take_zero] at hfirst
        cases hfirst
      obtain ⟨k, l, hw⟩ : ∃ k l, s.waitingOn m = k :: l := by
        cases hw : s.waitingOn m with
        | nil => rw [hw, List.take_nil] at hfirst; cases hfirst
        | cons k l => exact ⟨k, l, rfl⟩
      rw [State.fillUpTo_next n h hw hlen, hw]
      have hlots := State.lotJoins_lot s k c
      generalize hq : (s.presOf c).queue ++ [{ lot := k, origin := .train, announce := none }] = q
      have hu : ∀ j, ((s.lotJoins k c).setPres c { s.presOf c with queue := q }).lot j = (s.lotJoins k c).lot j :=
        fun j => rfl
      have ht : ((s.lotJoins k c).setPres c { s.presOf c with queue := q }).train m = s.train m := by
        obtain ⟨x, hx⟩ := s.updLot_frame k fun r => { r with state := .queued, clock := some c }
        rw [show s.lotJoins k c = { s with lots := x } from hx]
        rfl
      have hp : ((s.lotJoins k c).setPres c { s.presOf c with queue := q }).presOf c = { s.presOf c with queue := q } :=
        State.setPres_presOf_same ..
      have hwait := State.waitingOn_lotJoins (c := c) hnd hw ht hu
      generalize (s.lotJoins k c).setPres c { s.presOf c with queue := q } = u at hu ht hp hwait
      obtain ⟨hl', hp'⟩ := ih (s := u) (by rw [hp]; exact h) (by rw [ht]; exact hnd)
      have hcount : min (n + 1) (8 - (s.presOf c).queue.length) = min n (8 - (u.presOf c).queue.length) + 1 := by
        rw [hp, ← hq, List.length_append, List.length_singleton]
        omega
      have hk : k ∉ l.take (min n (8 - (u.presOf c).queue.length)) := fun hmem =>
        (List.nodup_cons.1 (show (k :: l).Nodup from hw ▸ hnd.filter _)).1 (List.mem_of_mem_take hmem)
      rw [hcount, List.take_succ_cons]
      rw [hwait] at hl' hp'
      refine ⟨fun j => ?_, ?_⟩
      · rw [hl', hu, hlots]
        by_cases hj : j = k
        · subst hj
          rw [if_neg hk, if_pos rfl, if_pos List.mem_cons_self]
        · simp only [hj, if_false, List.mem_cons, false_or]
      · rw [hp', hp, ← hq, List.map_cons, List.append_assoc]
        rfl

/-! ## The due lot (R49, R51) -/

theorem dueEntry_eq_none {n i : Nat} {q : List QEntry} (h : ∀ e ∈ q.take n, e.announce ≠ none) :
    dueEntry n i q = none := by
  induction n generalizing i q with
  | zero => rfl
  | succ n ih =>
    cases q with
    | nil => rfl
    | cons e q =>
      rw [List.take_succ_cons] at h
      unfold dueEntry
      rw [if_neg (by simpa using h e List.mem_cons_self)]
      exact ih fun x hx => h x (List.mem_cons_of_mem _ hx)

theorem dueEntry_append {n : Nat} {before : List QEntry} {e : QEntry} (rest : List QEntry) (i : Nat)
    (hn : before.length < n) (h : ∀ x ∈ before, x.announce ≠ none) (he : e.announce = none) :
    dueEntry n i (before ++ e :: rest) = some (i + before.length, e.lot) := by
  induction before generalizing n i with
  | nil =>
    obtain ⟨n, rfl⟩ : ∃ j, n = j + 1 := ⟨n - 1, by simp at hn; omega⟩
    exact if_pos (by rw [he]; rfl)
  | cons x before ih =>
    obtain ⟨n, rfl⟩ : ∃ j, n = j + 1 := ⟨n - 1, by simp at hn; omega⟩
    rw [List.cons_append]
    unfold dueEntry
    rw [if_neg (by simpa using h x List.mem_cons_self),
      ih (i + 1) (by simpa using hn) fun y hy => h y (List.mem_cons_of_mem _ hy)]
    rw [List.length_cons, show i + 1 + before.length = i + (before.length + 1) by omega]

theorem State.dueOf_current {l : Nat} (hl : (s.clock c).lot = some l) (hu : (s.presOf c).unrun = true)
    (hp : (s.presOf c).current = none) : s.dueOf c = some (0, l) := by
  unfold State.dueOf
  dsimp only
  rw [hl]
  exact if_pos ⟨hu, hp⟩

theorem State.dueOf_queue
    (h : (s.clock c).lot = none ∨ (s.presOf c).unrun = false ∨ (s.presOf c).current ≠ none) :
    s.dueOf c = dueEntry (s.clock c).set.depth 1 (s.presOf c).queue := by
  unfold State.dueOf
  dsimp only
  split
  · next l hl =>
    refine if_neg fun ⟨hu, hp⟩ => ?_
    obtain h | h | h := h
    · cases hl.symm.trans h
    · cases hu.symm.trans h
    · exact h hp
  · rfl

/-! ## Announcing by rotation (R50) -/

/-- The `i`th clock of the rotation. -/
theorem State.rotated_eq (s : State) : s.rotated = (List.range 6).map fun i => (s.rotation + i) % 6 := rfl

theorem State.announceStep_idle (h : ∀ c, c < 6 → s.dueOf c = none) : s.announceStep = (.nothingDue, s) := by
  have hfind : s.rotated.find? (fun c => (s.dueOf c).isSome) = none := by
    rw [List.find?_eq_none]
    intro c hc
    obtain ⟨i, -, rfl⟩ := List.mem_map.1 hc
    have hnone : s.dueOf ((s.rotation + i) % Config.clocks) = none := h _ (Nat.mod_lt _ (by decide))
    rw [hnone]
    exact Bool.false_ne_true
  unfold State.announceStep
  rw [hfind]

/-- The first clock of the rotation with a due lot is the one that announces. -/
theorem State.rotated_find {m : Nat} (hm : m < 6) (hbefore : ∀ j, j < m → s.dueOf ((s.rotation + j) % 6) = none)
    {x : Nat × Nat} (hdue : s.dueOf ((s.rotation + m) % 6) = some x) :
    s.rotated.find? (fun c => (s.dueOf c).isSome) = some ((s.rotation + m) % 6) := by
  rw [State.rotated_eq, List.find?_map]
  have hfind : (List.range 6).find? ((fun c => (s.dueOf c).isSome) ∘ fun i => (s.rotation + i) % 6) = some m := by
    rw [List.find?_range_eq_some]
    refine ⟨?_, List.mem_range.2 hm, fun j hj => ?_⟩
    · rw [Function.comp_apply, hdue]
      rfl
    · rw [Function.comp_apply, hbefore j hj]
      rfl
  rw [hfind]
  rfl

theorem State.announceStep_due (hfind : s.rotated.find? (fun c => (s.dueOf c).isSome) = some c) {i k : Nat}
    (hdue : s.dueOf c = some (i, k)) :
    s.announceStep =
      match s.offer (s.announceFrame c i k) with
      | none => (.refused, s)
      | some u => (.placed, u.placedAnnounce c i k) := by
  unfold State.announceStep
  rw [hfind]
  dsimp only
  rw [hdue] <;> rfl

theorem State.announceFrame_eq {k : Nat} {r : LotRec} (hr : s.lot k = some r) (c i : Nat) :
    s.announceFrame c i k =
      .announce c i k r.catalogue r.remaining r.unit (r.minTake * r.unit) r.reserve r.startPrice r.runouts := by
  unfold State.announceFrame
  rw [hr]

/-- With no due lot nothing is announced. -/
theorem State.announceUpTo_idle (n : Nat) (h : ∀ c, c < 6 → s.dueOf c = none) : State.announceUpTo n s = s := by
  cases n with
  | zero => rfl
  | succ n =>
    unfold State.announceUpTo
    rw [State.announceStep_idle h]

/-- A due lot whose frame finds no place makes the presentation unit wait. -/
theorem State.announceUpTo_refused (n : Nat) (hfind : s.rotated.find? (fun c => (s.dueOf c).isSome) = some c)
    {i k : Nat} (hdue : s.dueOf c = some (i, k)) (hno : s.offer (s.announceFrame c i k) = none) :
    State.announceUpTo (n + 1) s = s.joinWait .presentation .announce := by
  have hstep := State.announceStep_due hfind hdue
  rw [hno] at hstep
  unfold State.announceUpTo
  rw [hstep]

theorem State.announceUpTo_placed (n : Nat) (hfind : s.rotated.find? (fun c => (s.dueOf c).isSome) = some c)
    {i k : Nat} (hdue : s.dueOf c = some (i, k)) {u : State} (hu : s.offer (s.announceFrame c i k) = some u) :
    State.announceUpTo (n + 1) s = State.announceUpTo n (u.placedAnnounce c i k) := by
  have hstep := State.announceStep_due hfind hdue
  rw [hu] at hstep
  conv_lhs => unfold State.announceUpTo
  rw [hstep]

theorem State.offer_announce {c i k a b d e f h : Nat} {x : Option Nat} (hroom : s.line.outbound.length < 16) :
    s.offer (.announce c i k a b d e f x h) =
      some (s.setOutbound (s.line.outbound ++ [{ frame := .announce c i k a b d e f x h, sent := 0 }])) :=
  s.offer_of_room _ hroom

theorem State.setLotState_eq {k : Nat} {r : LotRec} (hr : s.lot k = some r) (q : LotState) :
    s.setLotState k q = s.setLot k (some { r with state := q }) := by
  unfold State.setLotState State.updLot
  rw [hr]

/-! ## A displaced ANNOUNCE (R51) -/

theorem State.displaced_queued {l : Nat} {r : LotRec} (hr : s.lot l = some r) (hq : r.state = .announced)
    (hc : r.clock = some c) :
    s.displaced c l =
      s.setPres c
        { s.presOf c with
          queue := (s.presOf c).queue.map fun e => if e.lot = l then { e with announce := none } else e } := by
  unfold State.displaced
  rw [hr]
  exact if_pos ⟨hq, hc⟩

theorem State.displaced_loaded {l : Nat} {r : LotRec} (hr : s.lot l = some r) (hq : r.state = .onClock) :
    s.displaced c l =
      if r.state = .onClock ∧ r.clock = some c ∧ (s.presOf c).unrun = true ∧ (s.clock c).lot = some l then
        s.setPres c { s.presOf c with current := none }
      else s := by
  unfold State.displaced
  rw [hr]
  exact if_neg (by simp [hq])

theorem State.displaced_none {l : Nat} (h : ∀ r, s.lot l = some r → r.state ≠ .announced ∧ r.state ≠ .onClock) :
    s.displaced c l = s := by
  unfold State.displaced
  split
  · rfl
  · next r hr =>
    obtain ⟨h1, h2⟩ := h r hr
    exact (if_neg fun h => h1 h.1).trans (if_neg fun h => h2 h.1)

/-! ## Judging loads and pending starts (R53, R55, R57, R58) -/

theorem State.advanceClock_nothing (quiet : Option Nat)
    (h : (s.clock c).state ≠ .idle ∨ (s.presOf c).queue = [] ∨
      ∃ e rest, (s.presOf c).queue = e :: rest ∧ s.lotIs e.lot .announced = false) :
    s.advanceClock quiet c = s.setPres c { s.presOf c with ready := none } := by
  have hnone : (if (s.clock c).state = .idle then s.announcedHead c else none) = none := by
    obtain h | h | ⟨e, rest, h, hl⟩ := h
    · exact if_neg h
    · unfold State.announcedHead
      rw [h]
      exact ite_self _
    · unfold State.announcedHead
      rw [h]
      dsimp only
      rw [hl]
      exact ite_self _
  unfold State.advanceClock
  dsimp only
  rw [hnone]

theorem State.advanceClock_head (quiet : Option Nat) {e : QEntry} {rest : List QEntry} (hq : (s.clock c).state = .idle)
    (hp : (s.presOf c).queue = e :: rest) (hl : s.lotIs e.lot .announced = true) :
    s.advanceClock quiet c =
      if (s.clock c).set.autoAdvance = true ∧ (s.clock c).rehearsal = false then s.autoLoad quiet c
      else if (s.presOf c).ready = some e.lot then s
      else (s.setPres c { s.presOf c with ready := some e.lot }).raise .auc .lotReady (.number c) := by
  have hhead : (if (s.clock c).state = .idle then s.announcedHead c else none) = some e.lot := by
    unfold State.announcedHead
    rw [hp]
    dsimp only
    rw [hl, hq]
    rfl
  unfold State.advanceClock
  dsimp only
  rw [hhead]

theorem State.load_settings (s : State) (c : Nat) : ((s.load c).clock c).set = (s.clock c).set := by
  unfold State.load
  dsimp only
  split
  · rfl
  · next e rest h =>
    obtain ⟨x, hx⟩ := (s.setPres c
      { s.presOf c with queue := rest, current := e.announce, unrun := true, ready := none }).setLotState_frame e.lot .onClock
    rw [hx]
    obtain ⟨y, z, hy⟩ := State.fill_frame (s := _) (c := c)
    rw [hy]
    refine (congrArg Clock.set (State.setClock_clock_same ..)).trans ?_
    rfl

theorem State.startDue_iff : s.startDue c = true ↔ (s.clock c).state = .loaded ∧
    (∃ a, (s.presOf c).current = some a ∧ (s.clock c).set.lead ≤ a.age) ∧
    ((s.presOf c).pending = some .manual ∨
      (s.presOf c).pending = some .auto ∧ ∀ n, (s.presOf c).letGo = some n → (s.clock c).set.pause ≤ n) := by
  have hpause : s.pausePassed c = true ↔ ∀ n, (s.presOf c).letGo = some n → (s.clock c).set.pause ≤ n := by
    unfold State.pausePassed
    cases (s.presOf c).letGo <;> simp
  rw [← State.leadMet_iff, ← hpause]
  unfold State.startDue
  rw [Bool.and_eq_true, beq_iff_eq]
  refine and_congr_right fun _ => ?_
  cases (s.presOf c).pending with
  | none => simp
  | some k => cases k <;> simp

end Sys2Proof.Machine

namespace Sys2Proof.Proofs

open Machine

/-- Settles O26: the checks of the command, then the fill, the announcements, the loads and the pending starts. -/
theorem clockLoadTakesTheHeadLot : Obligations.ClockLoadTakesTheHeadLot := by
  intro s
  refine ⟨fun t c hs hc => ⟨fun h => ?_, fun h hq => ?_, fun h hq hp => ?_, fun e rest h hq hp hr => ?_,
      fun e rest r h hq hp hl hr => ?_⟩,
    fun c e rest r hp hr => s.load_eq c e rest r hp hr, fun c h => State.fill_unnamed h, fun c n h hnd => ?_,
    fun c => ⟨fun l hl hu hp => State.dueOf_current hl hu hp, fun h => ⟨fun hq => ?_, fun before e rest hq hn hb he => ?_⟩⟩,
    fun h => if_pos h, fun h => if_neg (by simp [h]), fun n h => ?_, fun n m l i r hm hbefore => ?_, fun c l => ?_,
    fun quiet c => ?_, fun c => ⟨State.startDue_iff, fun hon => congrArg Host.Outcome.next (if_pos hon),
      fun h => if_neg (by simp [h])⟩, fun quiet => rfl, rfl, rfl⟩
  · exact exec_refuse hs rfl rfl rfl (State.clockLoadBlock_rehearsal hc h)
  · exact exec_refuse hs rfl rfl rfl (State.clockLoadBlock_busy hc h hq)
  · exact exec_refuse hs rfl rfl rfl (State.clockLoadBlock_empty hc h hq hp)
  · refine exec_refuse hs rfl rfl rfl ((State.clockLoadBlock_head hc h hq hp).trans (if_neg ?_))
    rw [State.lotIs_iff]
    rintro ⟨r, hl, hr'⟩
    exact hr r hl hr'
  · refine exec_ok hs rfl rfl rfl ((State.clockLoadBlock_head hc h hq hp).trans (if_pos ?_))
    exact (State.lotIs_iff _ _).2 ⟨r, hl, hr⟩
  · obtain ⟨x, hx⟩ := State.fill_presOf (s := s) c
    obtain ⟨y, z, hf⟩ := State.fill_frame (s := s) c
    have hfill := State.fillUpTo_of_train (c := c) Config.queueSize h hnd
    rw [show min Config.queueSize (8 - (s.presOf c).queue.length) = 8 - (s.presOf c).queue.length from
      Nat.min_eq_right (Nat.sub_le ..)] at hfill
    obtain ⟨hlot, hpres⟩ := hfill
    refine ⟨hlot, hpres, fun d hd => (hx d).trans (if_neg hd), ?_⟩
    change s.fill c = { s with lots := (s.fill c).lots, pres := (s.fill c).pres }
    rw [hf]
  · exact (State.dueOf_queue h).trans (dueEntry_eq_none hq)
  · rw [State.dueOf_queue h, hq, dueEntry_append rest 1 hn hb he, Nat.add_comm]
  · exact State.announceUpTo_idle n h
  · intro c at0 frame v hdue hr
    have hfind := State.rotated_find hm hbefore hdue
    have hframe : s.announceFrame c i l = frame := State.announceFrame_eq hr c i
    have hoffer : s.line.outbound.length < 16 → s.offer (s.announceFrame c i l) =
        some (s.setOutbound (s.line.outbound ++ [{ frame := frame, sent := 0 }])) :=
      fun hroom => by rw [hframe]; exact State.offer_announce hroom
    refine ⟨fun hfull => ?_, fun hroom hi => ?_, fun hroom hi => ?_⟩
    · exact State.announceUpTo_refused n hfind hdue (by rw [hframe]; exact s.offer_of_full _ hfull rfl)
    · refine (State.announceUpTo_placed n hfind hdue (hoffer hroom)).trans ?_
      exact congrArg _ (if_pos hi)
    · refine (State.announceUpTo_placed n hfind hdue (hoffer hroom)).trans (congrArg _ ((if_neg hi).trans ?_))
      refine congrArg (fun q => State.setPres q c _) ?_
      exact State.setLotState_eq (s := v) hr .announced
  · refine ⟨fun ⟨r, hr, hq, hc⟩ => State.displaced_queued hr hq hc, fun ⟨r, hr, hq, hc⟩ => ?_, State.displaced_none⟩
    exact ⟨fun hu hl => (State.displaced_loaded hr hq).trans (if_pos ⟨hq, hc, hu, hl⟩),
      fun hu => (State.displaced_loaded hr hq).trans (if_neg (by simp [hu]))⟩
  · refine ⟨State.advanceClock_nothing quiet, fun e rest hq hp hl => ⟨fun ha hr => ?_, fun h => ?_⟩⟩
    · refine (State.advanceClock_head quiet hq hp hl).trans ((if_pos ⟨ha, hr⟩).trans ?_)
      unfold State.autoLoad
      dsimp only
      rw [State.load_settings]
    · refine (State.advanceClock_head quiet hq hp hl).trans (if_neg ?_)
      rintro ⟨h1, h2⟩
      obtain h | h := h
      · cases h1.symm.trans h
      · cases h2.symm.trans h

end Sys2Proof.Proofs
end

section
/-! What each block leaves at a floor reset (R17, R46, R91, R148, R195). -/

namespace Sys2Proof.Machine

set_option Elab.async false

variable {s : State} {t c : Nat}

/-! ## The accounts (R130, R148) -/

/-- An account with a hold of `h` released. -/
def freedAcct (a : Account) (h : Nat) : Account :=
  { a with
    heldAmt := max 0 (a.heldAmt - h)
    isOver :=
      if a.limit < a.openAmt + a.billedAmt + max 0 (a.heldAmt - h) ∨ a.saturated = true then a.isOver else false }

theorem State.releaseHold_eq (s : State) (b h : Nat) : s.releaseHold b h = s.setAcct b (freedAcct (s.acct b) h) := by
  unfold State.releaseHold freedAcct
  rw [State.book_quiet]
  refine congrArg (s.setAcct b) ?_
  unfold lessHold exposureExact
  dsimp only
  congr 1
  by_cases h1 : (s.acct b).limit < (s.acct b).openAmt + (s.acct b).billedAmt + max 0 ((s.acct b).heldAmt - h)
  · simp [h1]
  · simp [h1]

/-- The hold of a clock's provisional or held winner is released. -/
def State.abandon (k : Clock) (q : State) : State :=
  match k.winner with
  | none => q
  | some w =>
    match w.buyer with
    | none => q
    | some b => if k.state = .settling ∨ k.state = .held then q.releaseHold b w.hold else q

/-- The account table after an abandoned sale, from the account table before. -/
def abandonIn (k : Clock) (a : Tab AcctCell) : Tab AcctCell :=
  match k.winner with
  | none => a
  | some w =>
    match w.buyer with
    | none => a
    | some b =>
      if k.state = .settling ∨ k.state = .held then
        Tab.set AcctCell.vacant a b { acct := freedAcct (Tab.get AcctCell.vacant a b).acct w.hold, found := none }
      else a

theorem State.abandon_eq (k : Clock) (q : State) : q.abandon k = { q with accounts := abandonIn k q.accounts } := by
  unfold State.abandon abandonIn
  split
  · rfl
  · split
    · rfl
    · split
      · rw [State.releaseHold_eq]
        rfl
      · rfl

/-! ## The clocks (R91) -/

/-- The journal with `n` reservations given up. -/
def Journal.givenUp (j : Journal) (n : Nat) : Journal :=
  if n = 0 then j
  else
    { j with
      copy1 := { values := { j.copy1.values with reserved := j.copy1.values.reserved - n }, found := none }
      copy2 := { values := { j.copy1.values with reserved := j.copy1.values.reserved - n }, found := none } }

theorem Journal.givenUp_zero (j : Journal) : j.givenUp 0 = j := rfl

theorem Journal.givenUp_givenUp (j : Journal) (m n : Nat) : (j.givenUp m).givenUp n = j.givenUp (m + n) := by
  rcases m with _ | m
  · rw [Nat.zero_add]
    rfl
  · rcases n with _ | n
    · rfl
    · unfold Journal.givenUp
      rw [if_neg (by omega), if_neg (by omega), if_neg (by omega)]
      dsimp only
      rw [Nat.sub_sub]

theorem State.restClock_eq (c : Nat) (s : State) :
    ∃ x, State.restClock c s =
      { s with
        accounts := abandonIn (s.clock c) s.accounts
        journal := s.journal.givenUp (if (s.clock c).reserved then 1 else 0)
        clocks := x } ∧
      ∀ d, (State.restClock c s).clock d = if d = c then (s.clock c).floorReset else s.clock d := by
  have habandon : (match (s.clock c).winner with
      | none => s
      | some w => if (s.clock c).state = .settling ∨ (s.clock c).state = .held then s.releaseWinner w else s) =
      { s with accounts := abandonIn (s.clock c) s.accounts } := by
    rw [← State.abandon_eq]
    unfold State.abandon State.releaseWinner
    cases (s.clock c).winner with
    | none => rfl
    | some w =>
      dsimp only
      cases w.buyer with
      | none => exact ite_self _
      | some b => rfl
  have hrest : State.restClock c s =
      (({ s with accounts := abandonIn (s.clock c) s.accounts } : State).giveUpReservation c).setClock c
        ((({ s with accounts := abandonIn (s.clock c) s.accounts } : State).giveUpReservation c).clock c).floorReset :=
    congrArg (fun u : State => (u.giveUpReservation c).setClock c ((u.giveUpReservation c).clock c).floorReset) habandon
  rw [hrest]
  unfold State.giveUpReservation
  dsimp only
  cases hr : (s.clock c).reserved with
  | false =>
    have hr' : (({ s with accounts := abandonIn (s.clock c) s.accounts } : State).clock c).reserved = false := hr
    rw [if_neg (by rw [hr']; decide)]
    exact ⟨_, rfl, fun d => State.setClock_clock _ c d _⟩
  | true =>
    have hr' : (({ s with accounts := abandonIn (s.clock c) s.accounts } : State).clock c).reserved = true := hr
    rw [if_pos hr', State.setClock_clock_same, State.setClock_setClock]
    exact ⟨_, rfl, fun d => State.setClock_clock _ c d _⟩

/-- The account table after the sales of a list of clocks are abandoned. -/
def abandonedIn (k : Nat → Clock) (l : List Nat) (a : Tab AcctCell) : Tab AcctCell :=
  l.foldl (fun x c => abandonIn (k c) x) a

theorem abandonedIn_congr {k k' : Nat → Clock} {l : List Nat} (h : ∀ c ∈ l, k c = k' c) (a : Tab AcctCell) :
    abandonedIn k l a = abandonedIn k' l a := by
  induction l generalizing a with
  | nil => rfl
  | cons c l ih =>
    unfold abandonedIn at ih ⊢
    rw [List.foldl_cons, List.foldl_cons, h c List.mem_cons_self, ih fun d hd => h d (List.mem_cons_of_mem _ hd)]

theorem State.each_abandon_accounts (k : Nat → Clock) (l : List Nat) (s : State) :
    (State.each (fun c q => q.abandon (k c)) l s).accounts = abandonedIn k l s.accounts := by
  induction l generalizing s with
  | nil => rfl
  | cons c l ih =>
    refine (ih (s.abandon (k c))).trans ?_
    rw [State.abandon_eq]
    rfl

/-- Every clock of a list is brought to rest. -/
theorem State.each_restClock {l : List Nat} (hl : l.Nodup) (s : State) :
    ∃ x, State.each State.restClock l s =
      { s with
        accounts := abandonedIn s.clock l s.accounts
        journal := s.journal.givenUp (l.countP fun c => (s.clock c).reserved)
        clocks := x } ∧
      ∀ d, (State.each State.restClock l s).clock d = if d ∈ l then (s.clock d).floorReset else s.clock d := by
  induction l generalizing s with
  | nil => exact ⟨s.clocks, rfl, fun d => rfl⟩
  | cons c l ih =>
    rw [List.nodup_cons] at hl
    obtain ⟨hc, hl⟩ := hl
    obtain ⟨x, hx, hclock⟩ := s.restClock_eq c
    have hrest : ∀ d ∈ l, (State.restClock c s).clock d = s.clock d := fun d hd =>
      (hclock d).trans (if_neg (show d ≠ c from fun he => hc (he ▸ hd)))
    obtain ⟨y, hy, hclocks⟩ := ih hl (State.restClock c s)
    have hcount : (l.countP fun c' => ((State.restClock c s).clock c').reserved) =
        l.countP fun c' => (s.clock c').reserved := List.countP_congr fun d hd => by rw [hrest d hd]
    have habandon := abandonedIn_congr hrest (State.restClock c s).accounts
    refine ⟨y, ?_, fun d => ?_⟩
    · change State.each State.restClock l (State.restClock c s) = _
      rw [hy, hcount, habandon, hx, List.countP_cons, Nat.add_comm]
      dsimp only
      rw [Journal.givenUp_givenUp]
      rfl
    · refine (hclocks d).trans ?_
      by_cases hd : d ∈ l
      · rw [if_pos hd, if_pos (List.mem_cons_of_mem _ hd), hrest d hd]
      · rw [if_neg hd, hclock]
        by_cases he : d = c
        · rw [if_pos he, if_pos (show d ∈ c :: l by rw [he]; exact List.mem_cons_self), he]
        · rw [if_neg he, if_neg (by simp [he, hd])]

/-! ## The trains and the segments (R46) -/

/-- A train at a floor reset, with the segments it would take in. -/
def restedTrain (taken : List Nat) (r : Train) : Train :=
  match r.state with
  | .moving | .stalled => r.halted taken
  | .queued => { r with state := r.returnState, move := none, prior := none }
  | .empty | .stored | .stopped | .presenting | .cleared | .atBay => r

/-- A segment at a floor reset: `taken n` gives the segments that train `n` takes in, for a train under way. -/
def restedSeg (taken : Nat → Option (List Nat)) (g : Nat) (x : Segment) : Segment :=
  match x.state with
  | .reserved n =>
    match taken n with
    | none => x
    | some l => { x with state := if g ∈ l then .occupied n else .free }
  | .fault (some n) => if (taken n).isSome then { x with state := .fault none } else x
  | .free | .occupied _ | .fault none => x

/-- The segments that each train under way of a list takes in. -/
def State.takenBy (s : State) (l : List Nat) (n : Nat) : Option (List Nat) :=
  if n ∈ l ∧ (s.train n).underWay = true then some (s.takenIn n) else none

theorem cancelSegment_eq (t : Nat) (taken : List Nat) (g : Nat) (x : Segment) :
    cancelSegment t taken g x = restedSeg (fun n => if n = t then some taken else none) g x := by
  unfold cancelSegment restedSeg
  cases x.state with
  | reserved u =>
    by_cases h : u = t
    · subst h
      simp
    · simp [h]
  | fault u =>
    cases u with
    | none => rfl
    | some u =>
      by_cases h : u = t
      · subst h
        simp
      · simp [h]
  | free => rfl
  | occupied => rfl

theorem restedSeg_none (g : Nat) (x : Segment) : restedSeg (fun _ => none) g x = x := by
  unfold restedSeg
  split <;> rfl

/-- Trains brought to rest one after the other. -/
theorem restedSeg_restedSeg (p q : Nat → Option (List Nat)) (g : Nat) (x : Segment) :
    restedSeg q g (restedSeg p g x) = restedSeg (fun n => (p n).or (q n)) g x := by
  unfold restedSeg
  cases hx : x.state with
  | reserved n =>
    dsimp only
    cases hp : p n with
    | none => simp [hx]
    | some l =>
      by_cases hg : g ∈ l <;> simp [hg]
  | fault u =>
    cases u with
    | none => simp [hx]
    | some n =>
      cases hp : p n with
      | none => simp [hx, hp]
      | some l => simp [hp]
  | free => simp [hx]
  | occupied => simp [hx]

theorem restedSeg_shows (p : Nat → Option (List Nat)) (g : Nat) (x : Segment) :
    (restedSeg p g x).showsOccupied = x.showsOccupied := by
  unfold restedSeg
  split
  · split <;> rfl
  · split <;> rfl
  · rfl
  · rfl
  · rfl

/-- What another train holds stays with it. -/
theorem restedSeg_mine {p : Nat → Option (List Nat)} {n : Nat} (h : p n = none) (g : Nat) (x : Segment) :
    ((restedSeg p g x).state == .reserved n) = (x.state == .reserved n) := by
  unfold restedSeg
  cases hx : x.state with
  | reserved u =>
    dsimp only
    cases hp : p u with
    | none => simp [hx]
    | some l =>
      have hne : u ≠ n := fun he => by rw [he, h] at hp; cases hp
      by_cases hg : g ∈ l <;> simp [hg, hne]
  | fault u =>
    cases u with
    | none => simp [hx]
    | some u => cases hp : (p u).isSome <;> simp [hx, hp]
  | free => simp [hx]
  | occupied => simp [hx]

theorem State.takenIn_congr {u : State} {n : Nat} (ht : u.train n = s.train n)
    (hmine : ∀ g, ((u.seg g).state == .reserved n) = ((s.seg g).state == .reserved n))
    (hshows : ∀ g, (u.seg g).showsOccupied = (s.seg g).showsOccupied) : u.takenIn n = s.takenIn n := by
  unfold State.takenIn
  simp only [ht, hmine, hshows]

/-- The trains of a list have been brought to rest. -/
structure State.TrainsRested (s u : State) (l : List Nat) : Prop where
  frame : ∃ x y m, u = { s with yard := { s.yard with segs := x, trains := y, moves := m } }
  segTable : Tab.wf Segment.undefined u.yard.segs = true
  trains : ∀ n, u.train n = if n ∈ l then restedTrain (s.takenIn n) (s.train n) else s.train n
  segs : ∀ g, u.seg g = restedSeg (s.takenBy l) g (s.seg g)

theorem State.takenBy_still {l : List Nat} (h : ∀ n ∈ l, (s.train n).underWay = false) : s.takenBy l = fun _ => none := by
  funext n
  refine if_neg ?_
  rintro ⟨hn, hw⟩
  cases hw.symm.trans (h n hn)

theorem State.takenBy_single (h : (s.train t).underWay = true) :
    s.takenBy [t] = fun n => if n = t then some (s.takenIn t) else none := by
  funext n
  by_cases hn : n = t
  · subst hn
    exact (if_pos ⟨List.mem_singleton_self n, h⟩).trans (if_pos rfl).symm
  · exact (if_neg fun hm => hn (List.mem_singleton.1 hm.1)).trans (if_neg hn).symm

section
variable (h : Tab.wf Segment.undefined s.yard.segs = true)
include h

theorem State.trainsRested_still (hu : (s.train t).underWay = false)
    (hr : restedTrain (s.takenIn t) (s.train t) = s.train t) : s.TrainsRested s [t] where
  frame := ⟨_, _, _, rfl⟩
  segTable := h
  trains := fun n => by
    by_cases hn : n = t
    · rw [if_pos (List.mem_singleton.2 hn), hn, hr]
    · rw [if_neg (mt List.mem_singleton.1 hn)]
  segs := fun g => by
    rw [State.takenBy_still fun n hn => by rw [List.mem_singleton.1 hn]; exact hu]
    exact (restedSeg_none g _).symm

theorem State.trainsRested_halt (hu : (s.train t).underWay = true)
    (hr : restedTrain (s.takenIn t) (s.train t) = (s.train t).halted (s.takenIn t)) :
    s.TrainsRested (s.haltTrain t) [t] where
  frame := ⟨_, _, _, rfl⟩
  segTable := Tab.wf_mapAll _ (cancelSegment t (s.takenIn t)) _ h
  trains := fun n => by
    refine (State.setTrain_train _ t n _).trans ?_
    by_cases hn : n = t
    · rw [if_pos hn, if_pos (List.mem_singleton.2 hn), hn, hr]
      rfl
    · rw [if_neg hn, if_neg (mt List.mem_singleton.1 hn)]
      rfl
  segs := fun g => by
    rw [State.takenBy_single hu]
    exact (Tab.get_mapAll _ (cancelSegment t (s.takenIn t)) _ g rfl h).trans (cancelSegment_eq ..)

theorem State.trainsRested_unqueue (hq : (s.train t).state = .queued) : s.TrainsRested (s.unqueue t) [t] where
  frame := ⟨_, _, _, rfl⟩
  segTable := h
  trains := fun n => by
    refine (State.setTrain_train _ t n _).trans ?_
    by_cases hn : n = t
    · rw [if_pos hn, if_pos (List.mem_singleton.2 hn), hn]
      unfold restedTrain
      rw [hq]
    · rw [if_neg hn, if_neg (mt List.mem_singleton.1 hn)]
      rfl
  segs := fun g => by
    rw [State.takenBy_still fun n hn => by rw [List.mem_singleton.1 hn]; simp [Train.underWay, hq]]
    exact (restedSeg_none g _).symm

theorem State.trainsRested_restTrain (t : Nat) : s.TrainsRested (State.restTrain t s) [t] := by
  unfold State.restTrain
  cases hq : (s.train t).state with
  | moving | stalled =>
    exact State.trainsRested_halt h (by simp [Train.underWay, hq]) (by unfold restedTrain; rw [hq])
  | queued => exact State.trainsRested_unqueue h hq
  | empty | stored | stopped | presenting | cleared | atBay =>
    exact State.trainsRested_still h (by simp [Train.underWay, hq]) (by unfold restedTrain; rw [hq])

end

/-- What bringing a train to rest makes of another that is not in the list. -/
theorem State.TrainsRested.takenIn {u : State} {l : List Nat} {n : Nat} (h : s.TrainsRested u l) (hn : n ∉ l) :
    u.takenIn n = s.takenIn n := by
  have hnone : s.takenBy l n = none := if_neg fun hm => hn hm.1
  refine State.takenIn_congr ((h.trains n).trans (if_neg hn)) (fun g => ?_) fun g => ?_
  · rw [h.segs, restedSeg_mine hnone]
  · rw [h.segs, restedSeg_shows]

theorem State.TrainsRested.cons {u v : State} {l : List Nat} (h : s.TrainsRested u [t]) (g : u.TrainsRested v l)
    (ht : t ∉ l) : s.TrainsRested v (t :: l) where
  frame := by
    obtain ⟨x, y, m, hu⟩ := h.frame
    obtain ⟨x', y', m', hv⟩ := g.frame
    exact ⟨x', y', m', by rw [hv, hu]⟩
  segTable := g.segTable
  trains := fun n => by
    rw [g.trains, h.trains]
    by_cases hn : n = t
    · subst hn
      rw [if_neg ht, if_pos (List.mem_singleton_self n), if_pos List.mem_cons_self]
    · have hn' : n ∉ [t] := mt List.mem_singleton.1 hn
      rw [if_neg hn', h.takenIn hn']
      simp only [List.mem_cons, hn, false_or]
  segs := fun i => by
    rw [g.segs, h.segs, restedSeg_restedSeg]
    refine congrArg (restedSeg · i _) (funext fun n => ?_)
    by_cases hn : n = t
    · subst hn
      have hnone : u.takenBy l n = none := if_neg fun hm => ht hm.1
      rw [hnone, Option.or_none]
      unfold State.takenBy
      simp only [List.mem_cons, true_or]
    · have hn' : n ∉ [t] := mt List.mem_singleton.1 hn
      have hnone : s.takenBy [t] n = none := if_neg fun hm => hn' hm.1
      rw [hnone, Option.none_or]
      unfold State.takenBy
      rw [h.takenIn hn', h.trains, if_neg hn']
      simp only [List.mem_cons, hn, false_or]

theorem State.trainsRested_each {l : List Nat} (hl : l.Nodup) (h : Tab.wf Segment.undefined s.yard.segs = true) :
    s.TrainsRested (State.each State.restTrain l s) l := by
  induction l generalizing s with
  | nil =>
    exact ⟨⟨_, _, _, rfl⟩, h, fun n => rfl, fun g => by rw [State.takenBy_still fun n hn => (List.not_mem_nil hn).elim]; exact (restedSeg_none g _).symm⟩
  | cons t l ih =>
    obtain ⟨ht, hl⟩ := List.nodup_cons.1 hl
    have hfirst := State.trainsRested_restTrain h t
    exact hfirst.cons (ih hl hfirst.segTable) ht

/-! ## The lots (R17) -/

theorem lotAtFloorReset_eq (r : LotRec) :
    lotAtFloorReset r =
      if r.state = .onTrain ∨ r.state = .queued ∨ r.state = .announced ∨ r.state = .onClock then
        { r with state := .onTrain, clock := none }
      else r := by
  unfold lotAtFloorReset
  cases r.state <;> rfl

theorem LotCell.floorReset_lot (c : LotCell) : (LotCell.floorReset c).lot = c.lot.map lotAtFloorReset := by
  unfold LotCell.floorReset
  cases h : c.lot with
  | none => exact h
  | some r =>
    dsimp only
    split
    · next he => rw [h, Option.map_some, he]
    · rfl

/-! ## The whole reset (R195) -/

/-- The part at rest, before the presentation unit starts afresh. -/
def State.rested (s : State) : State :=
  (State.each State.restClock clockNumbers (((s.abortTransfer .auc).abortTransfer .yrd).abortTransfer .fin)).restYard.restLine

theorem State.abortTransfer_frame (s : State) (p : Port) : ∃ x, s.abortTransfer p = { s with ports := x } := by
  unfold State.abortTransfer
  dsimp only
  split
  · exact ⟨s.ports, rfl⟩
  · obtain ⟨x, hx, -⟩ := State.raise_ports (s.setPort p _) .sup .commandAborted (.aborted p _)
    rw [hx]
    exact ⟨x, by cases p <;> rfl⟩

theorem restedSeg_eq (s : State) (g : Nat) (hl : ∀ n, (s.train n).underWay = true → n ∈ s.trainNumbers) :
    restedSeg (s.takenBy s.trainNumbers) g (s.seg g) =
      match (s.seg g).state with
      | .reserved n =>
        if (s.train n).state = .moving ∨ (s.train n).state = .stalled then
          { s.seg g with state := if g ∈ s.takenIn n then .occupied n else .free }
        else s.seg g
      | .fault (some n) =>
        if (s.train n).state = .moving ∨ (s.train n).state = .stalled then { s.seg g with state := .fault none }
        else s.seg g
      | .free | .occupied _ | .fault none => s.seg g := by
  have htaken : ∀ n, s.takenBy s.trainNumbers n =
      if (s.train n).state = .moving ∨ (s.train n).state = .stalled then some (s.takenIn n) else none := fun n => by
    have hiff : (s.train n).underWay = true ↔ (s.train n).state = .moving ∨ (s.train n).state = .stalled := by
      simp [Train.underWay]
    by_cases h : (s.train n).state = .moving ∨ (s.train n).state = .stalled
    · exact (if_pos ⟨hl n (hiff.2 h), hiff.2 h⟩).trans (if_pos h).symm
    · exact (if_neg fun hm => h (hiff.1 hm.2)).trans (if_neg h).symm
  unfold restedSeg
  cases (s.seg g).state with
  | reserved n =>
    dsimp only
    rw [htaken]
    by_cases h : (s.train n).state = .moving ∨ (s.train n).state = .stalled
    · rw [if_pos h, if_pos h]
    · rw [if_neg h, if_neg h]
  | fault u =>
    cases u with
    | none => rfl
    | some n =>
      dsimp only
      rw [htaken]
      by_cases h : (s.train n).state = .moving ∨ (s.train n).state = .stalled
      · rw [if_pos h, if_pos h]
        rfl
      · rw [if_neg h, if_neg h]
        rfl
  | free => rfl
  | occupied => rfl

/-- A train that is not listed is EMPTY. -/
theorem State.train_of_notMem {n : Nat} (h : n ∉ s.trainNumbers) : s.train n = Train.empty :=
  Tab.get_of_forall_ne _ _ _ fun c hc he => h (List.mem_map.2 ⟨c, hc, he⟩)

theorem State.trainNumbers_nodup (h : s.TablesWf) : s.trainNumbers.Nodup :=
  List.Nodup.of_map id (by
    rw [List.map_id]
    exact List.Pairwise.imp (fun h => Nat.ne_of_lt h) (List.pairwise_map.2 ((Tab.wf_iff _ _).1 h.trains).2))

/-- The clocks at rest, and what else the abandoned sales change. -/
theorem State.restedClocks (s : State) :
    ∃ x, State.each State.restClock clockNumbers (((s.abortTransfer .auc).abortTransfer .yrd).abortTransfer .fin) =
      { s with
        accounts := abandonedIn s.clock (List.range 6) s.accounts
        journal := s.journal.givenUp ((List.range 6).countP fun c => (s.clock c).reserved)
        clocks := x
        ports := (((s.abortTransfer .auc).abortTransfer .yrd).abortTransfer .fin).ports } ∧
      ∀ d, Tab.get Clock.reset x d = if d < 6 then (s.clock d).floorReset else s.clock d := by
  obtain ⟨P, hP⟩ : ∃ P, ((s.abortTransfer .auc).abortTransfer .yrd).abortTransfer .fin = { s with ports := P } := by
    obtain ⟨x, hx⟩ := s.abortTransfer_frame .auc
    obtain ⟨y, hy⟩ := (s.abortTransfer .auc).abortTransfer_frame .yrd
    obtain ⟨z, hz⟩ := ((s.abortTransfer .auc).abortTransfer .yrd).abortTransfer_frame .fin
    exact ⟨z, by rw [hz, hy, hx]⟩
  obtain ⟨x, hx, hclocks⟩ := State.each_restClock (l := clockNumbers) List.nodup_range ({ s with ports := P } : State)
  rw [hP]
  refine ⟨x, hx, fun d => ?_⟩
  have hd := hclocks d
  rw [hx] at hd
  refine hd.trans ?_
  by_cases hlt : d < 6
  · exact (if_pos (List.mem_range.2 hlt)).trans (if_pos hlt).symm
  · exact (if_neg fun hm => hlt (List.mem_range.1 hm)).trans (if_neg hlt).symm

/-- The part at rest is the trains brought to rest, and then the lots, the presentation unit and the line. -/
theorem State.rested_eq (h : s.TablesWf) :
    ∃ r y : State, r.TrainsRested y s.trainNumbers ∧
      (∃ x, r =
        { s with
          accounts := abandonedIn s.clock (List.range 6) s.accounts
          journal := s.journal.givenUp ((List.range 6).countP fun c => (s.clock c).reserved)
          clocks := x
          ports := (((s.abortTransfer .auc).abortTransfer .yrd).abortTransfer .fin).ports } ∧
        ∀ d, Tab.get Clock.reset x d = if d < 6 then (s.clock d).floorReset else s.clock d) ∧
      s.rested =
        { y with
          lots := Tab.mapAll LotCell.free (fun _ c => LotCell.floorReset c) y.lots
          yard := { y.yard with moves := [], windows := [] }
          pres := [], rotation := 0
          line := { y.line with
            inbound := [], outbound := [], waits := [], sending := y.line.sending.map fun f => { f with orphan := true } } } := by
  obtain ⟨x, hx, hclocks⟩ := s.restedClocks
  have hrest : s.rested = (State.each State.restClock clockNumbers
    (((s.abortTransfer .auc).abortTransfer .yrd).abortTransfer .fin)).restYard.restLine := rfl
  generalize State.each State.restClock clockNumbers
    (((s.abortTransfer .auc).abortTransfer .yrd).abortTransfer .fin) = r at hx hrest
  have hnumbers : r.trainNumbers = s.trainNumbers := by rw [hx]; rfl
  refine ⟨r, State.each State.restTrain s.trainNumbers r, ?_, ⟨x, hx, hclocks⟩, ?_⟩
  · exact State.trainsRested_each (State.trainNumbers_nodup h) (by rw [hx]; exact h.segs)
  · rw [hrest]
    unfold State.restYard State.restLine
    dsimp only
    rw [hnumbers]

theorem State.rested_train (h : s.TablesWf) (n : Nat) :
    s.rested.train n = if n ∈ s.trainNumbers then restedTrain (s.takenIn n) (s.train n) else s.train n := by
  obtain ⟨r, y, htrains, ⟨x, hx, -⟩, hrest⟩ := State.rested_eq h
  have htaken : r.takenIn n = s.takenIn n := by rw [hx]; rfl
  have htrain : r.train n = s.train n := by rw [hx]; rfl
  rw [← htrain, ← htaken, ← htrains.trains n, hrest]
  rfl

theorem State.rested_seg (h : s.TablesWf) (g : Nat) :
    s.rested.seg g = restedSeg (s.takenBy s.trainNumbers) g (s.seg g) := by
  obtain ⟨r, y, htrains, ⟨x, hx, -⟩, hrest⟩ := State.rested_eq h
  have hby : r.takenBy s.trainNumbers = s.takenBy s.trainNumbers := by rw [hx]; rfl
  have hseg : r.seg g = s.seg g := by rw [hx]; rfl
  rw [← hseg, ← hby, ← htrains.segs g, hrest]
  rfl

/-- No train is under way or queued once it is at rest. -/
theorem restedTrain_still (taken : List Nat) (r : Train) :
    (restedTrain taken r).state ≠ .moving ∧ (restedTrain taken r).state ≠ .stalled ∧
      (restedTrain taken r).state ≠ .queued := by
  unfold restedTrain
  cases hq : r.state with
  | moving | stalled => exact ⟨nofun, nofun, nofun⟩
  | queued =>
    dsimp only
    unfold Train.returnState
    cases r.prior with
    | none => exact ⟨nofun, nofun, nofun⟩
    | some q => cases q <;> exact ⟨nofun, nofun, nofun⟩
  | empty | stored | stopped | presenting | cleared | atBay =>
    dsimp only
    rw [hq]
    exact ⟨nofun, nofun, nofun⟩

theorem State.rested_still (h : s.TablesWf) (n : Nat) :
    (s.rested.train n).state ≠ .moving ∧ (s.rested.train n).state ≠ .stalled ∧ (s.rested.train n).state ≠ .queued := by
  rw [State.rested_train h]
  split
  · exact restedTrain_still _ _
  · next hn =>
    rw [State.train_of_notMem hn]
    exact ⟨nofun, nofun, nofun⟩

/-- Every block takes its floor-reset values. -/
theorem State.rested_floorRested (h : s.TablesWf) : FloorRested s s.rested := by
  have hvtrain := State.rested_train h
  have hvseg := State.rested_seg h
  obtain ⟨r, y, htrains, ⟨x, hx, hclocks⟩, hrest⟩ := State.rested_eq h
  have hunder : ∀ n, n ∉ s.trainNumbers → (s.train n).state = .empty := fun n hn => by
    rw [State.train_of_notMem hn]
    rfl
  obtain ⟨segs, trains, moves, hy⟩ := htrains.frame
  have hlots : y.lots = s.lots := by rw [hy, hx]
  exact
    { lots := fun k => by
        have hlot : s.rested.lot k = (s.lot k).map lotAtFloorReset := by
          rw [hrest]
          change (Tab.get LotCell.free (Tab.mapAll LotCell.free (fun _ c => LotCell.floorReset c) y.lots) k).lot = _
          rw [hlots, Tab.get_mapAll _ _ _ _ rfl h.lots, LotCell.floorReset_lot]
          rfl
        rw [hlot]
        exact congrArg (fun f => (s.lot k).map f) (funext lotAtFloorReset_eq)
      accounts := by
        rw [hrest]
        refine Eq.trans ?_ (s.each_abandon_accounts s.clock (List.range 6)).symm
        change y.accounts = _
        rw [hy, hx]
      journal := by
        rw [hrest]
        change y.journal = _
        rw [hy, hx]
        rfl
      segs := fun g => by
        rw [hvseg]
        exact restedSeg_eq s g fun n hn => by
          by_contra hm
          rw [State.train_of_notMem hm] at hn
          cases hn
      trains := fun n => by
        by_cases hn : n ∈ s.trainNumbers
        · rw [hvtrain, if_pos hn]
          unfold restedTrain
          refine ⟨fun hq => ?_, fun q hq hp => ?_, fun h1 h2 h3 => ?_⟩
          · obtain hq | hq := hq <;> rw [hq]
          · rw [hq]
            dsimp only
            unfold Train.returnState
            rw [hp]
          · cases hq : (s.train n).state with
            | moving => exact absurd hq h1
            | stalled => exact absurd hq h2
            | queued => exact absurd hq h3
            | empty | stored | stopped | presenting | cleared | atBay => rfl
        · rw [hvtrain, if_neg hn]
          have he := hunder n hn
          refine ⟨fun hq => ?_, fun q hq _ => ?_, fun _ _ _ => rfl⟩
          · rw [he] at hq
            obtain hq | hq := hq <;> cases hq
          · rw [he] at hq
            cases hq
      yard := by
        rw [hrest]
        change ({ y.yard with moves := [], windows := [] } : Yard) = _
        rw [hy, hx]
      clocks := fun c => by
        rw [hrest]
        change Tab.get Clock.reset y.clocks c = _
        rw [hy, hx]
        exact hclocks c
      presentation := by
        rw [hrest]
        exact ⟨rfl, rfl⟩
      line := by
        rw [hrest]
        change ({ y.line with
          inbound := [], outbound := [], waits := []
          sending := y.line.sending.map fun f => { f with orphan := true } } : Line) = _
        rw [hy, hx]
      ports := by
        rw [hrest]
        change y.ports = _
        rw [hy, hx]
      rest := by
        rw [hrest]
        change y.change = _ ∧ y.sense = _ ∧ y.fees = _ ∧ y.desks = _ ∧ y.floorTime = _ ∧ y.power = _ ∧ y.pending = _
        rw [hy, hx]
        exact ⟨rfl, rfl, rfl, rfl, rfl, rfl, rfl⟩ }

end Sys2Proof.Machine
end

section
/-! What the presentation unit may change when it starts afresh after a floor reset (R63, R195, log entries 15 and 52). -/

namespace Sys2Proof.Machine

set_option Elab.async false

variable {s u v : State} {t c : Nat}

/-- What the presentation unit can do: it moves lots, queues and clocks, places frames and joins the wait list, takes
reservations, and gives LOT_READY, CLOCK_PAUSED and JOURNAL_LOW; the settings and modes of the clocks stay. -/
structure State.Presents (s u : State) : Prop where
  frame : ∃ l p r k q w j o, u =
    { s with
      lots := l, pres := p, rotation := r, clocks := k, line := { s.line with outbound := q, waits := w }, journal := j
      ports := o }
  journal : u.journal.places = s.journal.places ∧ u.values.used = s.values.used ∧ u.values.newest = s.values.newest
  clocks : ∀ c, (u.clock c).set = (s.clock c).set ∧ (u.clock c).rehearsal = (s.clock c).rehearsal ∧
    (u.clock c).responses = (s.clock c).responses
  silent : u.port .sup = s.port .sup ∧ u.port .yrd = s.port .yrd
  auc : u.port .auc = { s.port .auc with flags := (u.port .auc).flags }
  fin : u.port .fin = { s.port .fin with flags := (u.port .fin).flags }
  aucFlags : ∀ k, k ≠ 1 → k ≠ 4 → k ≠ 5 → u.flag .auc k = s.flag .auc k
  finFlags : ∀ k, k ≠ 1 → u.flag .fin k = s.flag .fin k

theorem State.Presents.trans (h : s.Presents u) (g : u.Presents v) : s.Presents v where
  frame := by
    obtain ⟨l, p, r, k, q, w, j, o, hu⟩ := h.frame
    obtain ⟨l', p', r', k', q', w', j', o', hv⟩ := g.frame
    exact ⟨l', p', r', k', q', w', j', o', by rw [hv, hu]⟩
  journal := by
    obtain ⟨h1, h2, h3⟩ := h.journal
    obtain ⟨g1, g2, g3⟩ := g.journal
    exact ⟨g1.trans h1, g2.trans h2, g3.trans h3⟩
  clocks := fun c => by
    obtain ⟨h1, h2, h3⟩ := h.clocks c
    obtain ⟨g1, g2, g3⟩ := g.clocks c
    exact ⟨g1.trans h1, g2.trans h2, g3.trans h3⟩
  silent := by
    obtain ⟨h1, h2⟩ := h.silent
    obtain ⟨g1, g2⟩ := g.silent
    exact ⟨g1.trans h1, g2.trans h2⟩
  auc := g.auc.trans (congrArg (fun x : PortCtx => { x with flags := (v.port .auc).flags }) h.auc)
  fin := g.fin.trans (congrArg (fun x : PortCtx => { x with flags := (v.port .fin).flags }) h.fin)
  aucFlags := fun k h1 h4 h5 => (g.aucFlags k h1 h4 h5).trans (h.aucFlags k h1 h4 h5)
  finFlags := fun k h1 => (g.finFlags k h1).trans (h.finFlags k h1)

/-- A change of the lots, the presentation unit, the outbound queue and the wait list. -/
theorem presents_of_frame
    (h : ∃ l p r q w, u = { s with lots := l, pres := p, rotation := r, line := { s.line with outbound := q, waits := w } }) :
    s.Presents u := by
  obtain ⟨l, p, r, q, w, rfl⟩ := h
  exact ⟨⟨_, _, _, _, _, _, _, _, rfl⟩, ⟨rfl, rfl, rfl⟩, fun c => ⟨rfl, rfl, rfl⟩, ⟨rfl, rfl⟩, rfl, rfl,
    fun _ _ _ _ => rfl, fun _ _ => rfl⟩

theorem presents_refl (s : State) : s.Presents s := presents_of_frame ⟨_, _, _, _, _, rfl⟩

theorem presents_setPres (s : State) (c : Nat) (p : Pres) : s.Presents (s.setPres c p) :=
  presents_of_frame ⟨_, _, _, _, _, rfl⟩

theorem presents_setClock (s : State) (c : Nat) {k : Clock}
    (h : k.set = (s.clock c).set ∧ k.rehearsal = (s.clock c).rehearsal ∧ k.responses = (s.clock c).responses) :
    s.Presents (s.setClock c k) :=
  ⟨⟨_, _, _, _, _, _, _, _, rfl⟩, ⟨rfl, rfl, rfl⟩,
    fun d => by
      rw [State.setClock_clock]
      by_cases hd : d = c
      · rw [if_pos hd, hd]
        exact h
      · rw [if_neg hd]
        exact ⟨rfl, rfl, rfl⟩,
    ⟨rfl, rfl⟩, rfl, rfl, fun _ _ _ _ => rfl, fun _ _ => rfl⟩

theorem presents_setValues (s : State) {v : JournalValues} 
    (h : v.used = s.values.used ∧ v.newest = s.values.newest) : s.Presents (s.setValues v) :=
  ⟨⟨_, _, _, _, _, _, _, _, rfl⟩, ⟨rfl, h⟩, fun _ => ⟨rfl, rfl, rfl⟩, ⟨rfl, rfl⟩, rfl, rfl,
    fun _ _ _ _ => rfl, fun _ _ => rfl⟩

/-- A notice of AUC of priority 1, 4 or 5: CLOCK_PAUSED, LOT_READY, JOURNAL_LOW. -/
theorem presents_setFlag_auc (s : State) {n : Nat} (h : n = 1 ∨ n = 4 ∨ n = 5) (f : Flag) :
    s.Presents (s.setFlag .auc n f) :=
  ⟨⟨_, _, _, _, _, _, _, _, rfl⟩, ⟨rfl, rfl, rfl⟩, fun c => ⟨rfl, rfl, rfl⟩, ⟨rfl, rfl⟩, rfl, rfl,
    fun k h1 h4 h5 => Tab.get_set_other _ _ _ _ _ fun hk => by
      subst hk
      obtain h | h | h := h
      · exact h1 h
      · exact h4 h
      · exact h5 h,
    fun _ _ => rfl⟩

/-- JOURNAL_LOW of FIN. -/
theorem presents_setFlag_fin (s : State) (f : Flag) : s.Presents (s.setFlag .fin 1 f) :=
  ⟨⟨_, _, _, _, _, _, _, _, rfl⟩, ⟨rfl, rfl, rfl⟩, fun _ => ⟨rfl, rfl, rfl⟩, ⟨rfl, rfl⟩, rfl, rfl,
    fun _ _ _ _ => rfl, fun k h1 => Tab.get_set_other _ _ _ _ _ h1⟩

theorem presents_raise_lotReady (s : State) (d : Detail) : s.Presents (s.raise .auc .lotReady d) :=
  presents_setFlag_auc s (n := 4) (by decide) _

theorem presents_raisePaused (s : State) (c : Nat) : s.Presents (s.raisePaused c) :=
  presents_setFlag_auc s (n := 1) (by decide) _

theorem presents_judgeLow (s : State) : s.Presents s.judgeLow := by
  unfold State.judgeLow
  dsimp only
  split
  · exact (presents_setFlag_fin s _).trans (presents_setFlag_auc _ (n := 5) (by decide) _)
  · exact presents_refl s

/-! ## Beginning a pending start (R55, R71) -/

theorem presents_takeReservation (s : State) (c : Nat) : s.Presents (s.takeReservation c) := by
  unfold State.takeReservation
  dsimp only
  split
  · exact presents_refl s
  · exact ((presents_setValues s (by exact ⟨rfl, rfl⟩)).trans (presents_setClock _ c (by exact ⟨rfl, rfl, rfl⟩))).trans (presents_judgeLow _)

theorem presents_takeBegin (s : State) (c : Nat) (kind : BeginKind) (price reserve start : Nat) :
    s.Presents (s.takeBegin c kind price reserve start) := by
  have hres : s.Presents (if kind = .rehearsal then s else s.takeReservation c) := by
    split
    · exact presents_refl s
    · exact presents_takeReservation s c
  unfold State.takeBegin
  dsimp only
  exact (hres.trans (presents_setClock _ c (by exact ⟨rfl, rfl, rfl⟩))).trans (presents_setPres ..)

theorem presents_joinWait (s : State) (who : Producer) (kind : WaitKind) : s.Presents (s.joinWait who kind) := by
  refine presents_of_frame ?_
  unfold State.joinWait
  dsimp only
  split <;> exact ⟨_, _, _, _, _, rfl⟩

theorem presents_offer {f : OutFrame} (h : s.offer f = some u) : s.Presents u := by
  obtain ⟨q, p, hu⟩ := s.offer_frame h
  exact presents_of_frame ⟨_, p, _, q, _, hu⟩

theorem presents_beginRun (s : State) (c : Nat) (kind : BeginKind) : s.Presents (s.beginRun c kind).2 := by
  unfold State.beginRun
  dsimp only
  split
  · exact presents_refl s
  · split
    · exact presents_refl s
    · split
      · next hu => exact (presents_offer hu).trans (presents_takeBegin ..)
      · exact ((presents_setClock s c (by exact ⟨rfl, rfl, rfl⟩)).trans (presents_setPres ..)).trans (presents_joinWait ..)

theorem presents_beginPending (s : State) (c : Nat) : s.Presents (s.beginPending c) := by
  have hrun := presents_beginRun s c .startPending
  unfold State.beginPending
  dsimp only
  split
  · exact hrun
  · exact hrun
  · exact (hrun.trans (presents_setPres ..)).trans (presents_raisePaused ..)
  · exact (hrun.trans (presents_setPres ..)).trans (presents_raisePaused ..)

theorem presents_judgeStart (s : State) (c : Nat) : s.Presents (s.judgeStart c) := by
  unfold State.judgeStart
  split
  · exact presents_beginPending s c
  · exact presents_refl s

/-! ## Filling, loading, announcing (R48 to R52, R58) -/

theorem presents_fill (s : State) (c : Nat) : s.Presents (s.fill c) := by
  obtain ⟨x, y, h⟩ := State.fill_frame (s := s) c
  exact presents_of_frame ⟨x, y, _, _, _, h⟩

theorem presents_setLotState (s : State) (k : Nat) (q : LotState) : s.Presents (s.setLotState k q) := by
  obtain ⟨x, h⟩ := State.setLotState_frame (s := s) k q
  exact presents_of_frame ⟨x, _, _, _, _, h⟩

theorem presents_load (s : State) (c : Nat) : s.Presents (s.load c) := by
  unfold State.load
  dsimp only
  split
  · exact presents_refl s
  · exact (((presents_setPres s c _).trans (presents_setLotState ..)).trans (presents_setClock _ c (by exact ⟨rfl, rfl, rfl⟩))).trans
      (presents_fill ..)

theorem presents_placedAnnounce (s : State) (c i k : Nat) : s.Presents (s.placedAnnounce c i k) := by
  have hrot : s.Presents { s with rotation := (c + 1) % Config.clocks } := presents_of_frame ⟨_, _, _, _, _, rfl⟩
  unfold State.placedAnnounce
  dsimp only
  split
  · exact (hrot.trans (presents_setPres ..)).trans (presents_judgeStart ..)
  · exact (hrot.trans (presents_setLotState ..)).trans (presents_setPres ..)

theorem presents_announceStep (s : State) : s.Presents s.announceStep.2 := by
  unfold State.announceStep
  split
  · exact presents_refl s
  · split
    · exact presents_refl s
    · split
      · exact presents_refl s
      · next hu => exact (presents_offer hu).trans (presents_placedAnnounce ..)

theorem presents_announceUpTo (n : Nat) (s : State) : s.Presents (State.announceUpTo n s) := by
  induction n generalizing s with
  | zero => exact presents_refl s
  | succ n ih =>
    have hstep := presents_announceStep s
    unfold State.announceUpTo
    dsimp only
    split
    · exact presents_refl s
    · exact hstep.trans (ih _)
    · exact presents_joinWait ..

theorem presents_announceAll (s : State) : s.Presents s.announceAll := by
  unfold State.announceAll
  split
  · exact presents_refl s
  · exact presents_announceUpTo ..

theorem presents_advanceClock (s : State) (quiet : Option Nat) (c : Nat) : s.Presents (s.advanceClock quiet c) := by
  unfold State.advanceClock
  dsimp only
  split
  · exact presents_setPres ..
  · split
    · unfold State.autoLoad
      dsimp only
      split
      · exact ((presents_load s c).trans (presents_setPres ..)).trans (presents_judgeStart ..)
      · exact presents_load s c
    · split
      · exact presents_refl s
      · exact (presents_setPres s c _).trans (presents_raise_lotReady ..)

theorem presents_each {f : Nat → State → State} (h : ∀ c q, State.Presents q (f c q)) (l : List Nat) (s : State) :
    s.Presents (State.each f l s) := by
  induction l generalizing s with
  | nil => exact presents_refl s
  | cons c l ih => exact (h c s).trans (ih _)

theorem presents_settlePass (s : State) (quiet : Option Nat) : s.Presents (s.settlePass quiet) :=
  (presents_announceAll s).trans (presents_each (fun c q => presents_advanceClock q quiet c) clockNumbers _)

theorem presents_settle (s : State) : s.Presents s.settle :=
  (presents_settlePass s none).trans (presents_settlePass _ none)

/-! ## A presenting train is named again (R63) -/

theorem State.renameTrain_presenting {n : Nat} (hq : (s.train n).state = .presenting) (hc : (s.train n).clock = some c) :
    State.renameTrain n s = (s.setPres c { s.presOf c with train := some n }).fill c := by
  unfold State.renameTrain
  rw [hq, hc] <;> rfl

theorem State.renameTrain_other {n : Nat} (h : (s.train n).state ≠ .presenting ∨ (s.train n).clock = none) :
    State.renameTrain n s = s := by
  unfold State.renameTrain
  split
  · next d hq hc =>
    obtain h | h := h
    · exact absurd hq h
    · cases hc.symm.trans h
  · rfl

/-- Naming a train changes lots and the presentation unit alone. -/
theorem State.renameTrain_frame (n : Nat) (s : State) :
    ∃ l p, State.renameTrain n s = { s with lots := l, pres := p } := by
  by_cases h : (s.train n).state ≠ .presenting ∨ (s.train n).clock = none
  · exact ⟨_, _, State.renameTrain_other h⟩
  · obtain ⟨hq, hc⟩ := not_or.1 h
    obtain ⟨c, hc⟩ := Option.ne_none_iff_exists'.1 hc
    obtain ⟨x, y, hf⟩ := State.fill_frame (s := s.setPres c { s.presOf c with train := some n }) c
    exact ⟨x, y, (State.renameTrain_presenting (not_not.1 hq) hc).trans hf⟩

theorem State.each_renameTrain_frame (l : List Nat) (s : State) :
    ∃ x p, State.each State.renameTrain l s = { s with lots := x, pres := p } := by
  induction l generalizing s with
  | nil => exact ⟨_, _, rfl⟩
  | cons n l ih =>
    obtain ⟨x, p, h⟩ := s.renameTrain_frame n
    obtain ⟨x', p', h'⟩ := ih (State.renameTrain n s)
    exact ⟨x', p', by rw [State.each, h', h]⟩

/-! ## A part with no auto-advance (R58) -/

/-- Every clock is IDLE and has no auto-advance. -/
def State.Resting (s : State) : Prop := ∀ c, c < 6 → (s.clock c).state = .idle ∧ (s.clock c).set.autoAdvance = false

theorem State.Resting.congr (h : s.Resting) (hu : u.clocks = s.clocks) : u.Resting := fun c hc => by
  unfold State.clock
  rw [hu]
  exact h c hc

theorem State.Resting.judgeStart (h : s.Resting) (hc : c < 6) : s.judgeStart c = s := by
  have hdue : ¬ s.startDue c = true := fun hd => by
    have hq := (State.startDue_iff.1 hd).1
    rw [(h c hc).1] at hq
    cases hq
  exact if_neg hdue

theorem State.Resting.advanceClock (h : s.Resting) (hc : c < 6) (quiet : Option Nat) :
    (s.advanceClock quiet c).clocks = s.clocks := by
  unfold State.advanceClock
  dsimp only
  split
  · rfl
  · rw [if_neg (by rw [(h c hc).2]; simp)]
    split
    · rfl
    · obtain ⟨x, hx, -⟩ := State.raise_ports (s.setPres c _) .auc .lotReady (.number c)
      rw [hx]
      rfl

theorem State.Resting.announceStep (h : s.Resting) : s.announceStep.2.clocks = s.clocks := by
  unfold State.announceStep
  split
  · rfl
  · next c hc =>
    obtain ⟨i, -, rfl⟩ := List.mem_map.1 (List.mem_of_find?_eq_some hc)
    split
    · rfl
    · split
      · rfl
      · next u hu =>
        obtain ⟨q, p, hf⟩ := s.offer_frame hu
        unfold State.placedAnnounce
        dsimp only
        split
        · refine (congrArg State.clocks (State.Resting.judgeStart (h.congr ?_) (Nat.mod_lt _ (by decide)))).trans ?_
          · rw [hf]
            rfl
          · rw [hf]
            rfl
        · obtain ⟨x, hx⟩ := State.setLotState_frame
            (s := { u with rotation := ((s.rotation + i) % Config.clocks + 1) % Config.clocks }) _ .announced
          rw [hx, hf]
          rfl

theorem State.Resting.announceUpTo (n : Nat) (h : s.Resting) : (State.announceUpTo n s).clocks = s.clocks := by
  induction n generalizing s with
  | zero => rfl
  | succ n ih =>
    have hstep := h.announceStep
    unfold State.announceUpTo
    dsimp only
    split
    · rfl
    · exact (ih (h.congr hstep)).trans hstep
    · unfold State.joinWait
      dsimp only
      split <;> rfl

theorem State.Resting.settlePass (h : s.Resting) : (s.settlePass none).clocks = s.clocks := by
  have hann : s.announceAll.clocks = s.clocks := by
    unfold State.announceAll
    split
    · rfl
    · exact h.announceUpTo _
  have heach : ∀ (l : List Nat) (q : State), (∀ c ∈ l, c < 6) → q.Resting →
      (State.each (fun c q => q.advanceClock none c) l q).clocks = q.clocks := fun l => by
    induction l with
    | nil => exact fun _ _ _ => rfl
    | cons c l ih =>
      intro q hl hq
      have hone := hq.advanceClock (hl c List.mem_cons_self) none
      exact (ih _ (fun d hd => hl d (List.mem_cons_of_mem _ hd)) (hq.congr hone)).trans hone
  exact (heach clockNumbers _ (fun c hc => List.mem_range.1 hc) (h.congr hann)).trans hann

theorem State.Resting.settle (h : s.Resting) : s.settle.clocks = s.clocks :=
  (State.Resting.settlePass (h.congr h.settlePass)).trans h.settlePass

end Sys2Proof.Machine

namespace Sys2Proof.Proofs

open Machine

/-- Settles O24: the blocks at rest (`State.rested_floorRested`), then what the presentation unit may change
(`State.Presents`). -/
theorem floorResetBringsThePartToRest : Obligations.FloorResetBringsThePartToRest := by
  refine ⟨fun s t hs hwf => ?_, fun s n => ⟨fun c hq hc => State.renameTrain_presenting hq hc,
    State.renameTrain_other⟩, fun s b h => s.releaseHold_eq b h⟩
  have hrested := State.rested_floorRested hwf
  have hstill := State.rested_still hwf
  have hreset : s.floorReset = (State.each State.renameTrain s.rested.trainNumbers s.rested).settle := rfl
  generalize s.rested = v at hrested hstill hreset
  obtain ⟨x, p, hnamed⟩ := State.each_renameTrain_frame v.trainNumbers v
  have hpresents : v.Presents (State.each State.renameTrain v.trainNumbers v).settle :=
    (presents_of_frame (hnamed ▸ ⟨x, p, _, _, _, rfl⟩)).trans (presents_settle _)
  have hclock : ∀ c, c < 6 → v.clock c =
      { Clock.reset with
        set := (s.clock c).set, rehearsal := (s.clock c).rehearsal, tag := (s.clock c).tag
        responses := (s.clock c).responses } := fun c hc => (hrested.clocks c).trans (if_pos hc)
  have hquiet : v.Resting → (State.each State.renameTrain v.trainNumbers v).settle.clocks = v.clocks := fun h => by
    have hw : (State.each State.renameTrain v.trainNumbers v).clocks = v.clocks := by rw [hnamed]
    exact (State.Resting.settle (h.congr hw)).trans hw
  obtain ⟨hchange, hsense, hfees, hdesks, htime, hpower, hpending⟩ := hrested.rest
  generalize hu : (State.each State.renameTrain v.trainNumbers v).settle = u at hpresents hquiet hreset
  obtain ⟨l, pr, r, k, q, w, j, o, hframe⟩ := hpresents.frame
  obtain ⟨hplaces, hused, hnewest⟩ := hpresents.journal
  obtain ⟨hsup, hyrd⟩ := hpresents.silent
  have hjournal : v.journal.places = s.journal.places ∧ v.values.used = s.values.used ∧
      v.values.newest = s.values.newest := by
    unfold State.values
    rw [hrested.journal]
    dsimp only
    split <;> exact ⟨rfl, rfl, rfl⟩
  obtain ⟨hvplaces, hvused, hvnewest⟩ := hjournal
  refine ⟨v, u, hrested, hu.symm, ?_, fun c hc => ?_, fun hauto c hc => ?_, fun n => ?_, ?_, ?_, ?_, ?_, ?_, ?_, ?_, ?_,
    hplaces.trans hvplaces, hused.trans hvused, hnewest.trans hvnewest, ?_, ?_, hsup, hyrd, hpresents.auc,
    hpresents.fin, hpresents.aucFlags, hpresents.finFlags⟩
  · rw [← hreset]
    exact exec_ok hs rfl rfl rfl rfl
  · obtain ⟨h1, h2, h3⟩ := hpresents.clocks c
    rw [h1, h2, h3, hclock c hc]
    exact ⟨rfl, rfl, rfl⟩
  · have hv : v.Resting := fun d hd => by
      rw [hclock d hd]
      exact ⟨rfl, hauto d hd⟩
    unfold State.clock
    rw [hquiet hv]
  · have htrain : u.train n = v.train n := by rw [hframe]; rfl
    rw [htrain]
    exact hstill n
  · rw [hframe]
  · rw [hframe]
  · rw [hframe]; exact hfees
  · rw [hframe]; exact hdesks
  · rw [hframe]; exact htime
  · rw [hframe]; exact hsense
  · rw [hframe]; exact hpower
  · rw [hframe]; exact hchange
  · rw [hframe]
    exact congrArg Line.inbound hrested.line
  · rw [hframe]

end Sys2Proof.Proofs
end
